-- ==== Sys2Proof/Word.lean ====
section
/-! DEFINITION. The two word types of the core (spec/00_scope.md R5, spec/10_state.md R21): a register
or a memory byte is 8 bits, a pair, SP, PC or an address is 16 bits. -/

namespace Sys2Proof

/-- An 8-bit value: a data register, a byte of memory, an opcode byte (R5, R21). -/
abbrev Byte := BitVec 8

/-- A 16-bit value: a register pair, SP, PC, an address (R5, R21). -/
abbrev Word := BitVec 16

end Sys2Proof
end

