-- ==== Sys2Proof/Config.lean ====
section
/-! DEFINITION. What a build of the core fixes before the first step: the named parameters
`FLAG_PROFILE` and `EXTRA_UNIMPLEMENTED` of spec/00_scope.md R6. The third parameter, `INIT_STATE`, is
in Machine/Launch.lean. No value of this hardware is left open by the spec, so there is no free value. -/

namespace Sys2Proof

/-- `FLAG_PROFILE` (R6, decision D13): the flag rules at the two points where the source document and
the known LR35902 differ, which are N after an 8-bit INC (R139) and H and C after a signed addition
to SP (R161). -/
inductive FlagProfile where
  /-- The document's literal rules, the normative default. -/
  | doc
  /-- The LR35902's rules. -/
  | sm83
  deriving DecidableEq, Repr

/-- A slot of the dispatch ROM (R87): an index of one of its two tables of 256 descriptors. -/
inductive Slot where
  /-- The slot of the primary table indexed by the first opcode byte. -/
  | primary (op : Byte)
  /-- The slot of the CB table indexed by the byte after 0xCB. -/
  | cb (op2 : Byte)
  deriving DecidableEq, Repr

/-- The parameters of a build (R6). No step changes them. -/
structure Config where
  /-- `FLAG_PROFILE`. -/
  flagProfile : FlagProfile
  /-- `EXTRA_UNIMPLEMENTED`: slots the build leaves without a descriptor, in addition to the 11 holes
  of the primary table (R89). -/
  extraUnimplemented : List Slot
  deriving DecidableEq, Repr

/-- The defaults of R6: `FLAG_PROFILE = DOC`, `EXTRA_UNIMPLEMENTED` empty. -/
def Config.default : Config := { flagProfile := .doc, extraUnimplemented := [] }

end Sys2Proof
end

