-- ==== Sys2Proof/Syntax.lean ====
section
/-! DEFINITION. The instruction set: the operand kinds of spec/30_encoding.md (R76 to R81) and `Instr`,
one constructor for each of the 512 rows of spec/opcode_table.json. An immediate operand (d8, d16,
a8, a16, e8, and the ignored byte of STOP) is the constructor's argument (R72 to R75). -/

namespace Sys2Proof

/-- The seven 8-bit data registers (R20). -/
inductive Reg8 where
  | b | c | d | e | h | l | a
  deriving DecidableEq, Repr

/-- An 8-bit operand as a register code names it (R76): a register, or the byte at HL. -/
inductive Opnd8 where
  | reg (r : Reg8)
  | atHl
  deriving DecidableEq, Repr

/-- A register pair made of two 8-bit halves (R25); also the pair code of PUSH and POP (R79). -/
inductive Pair where
  | bc | de | hl | af
  deriving DecidableEq, Repr

/-- A 16-bit operand of the SP group (R78). -/
inductive Reg16 where
  | bc | de | hl | sp
  deriving DecidableEq, Repr

/-- A flag-condition code (R80). -/
inductive Cond where
  | nz | z | nc | c
  deriving DecidableEq, Repr

/-- The eight accumulator operations in the order of their code k (R130). -/
inductive AluOp where
  | add | adc | sub | sbc | and | xor | or | cp
  deriving DecidableEq, Repr

/-- The second operand of an accumulator operation (R130): an 8-bit operand or an immediate. -/
inductive AluSrc where
  | opnd (o : Opnd8)
  | imm (n : Byte)
  deriving DecidableEq, Repr

/-- The eight rotates and shifts of the CB table in the order of their code y (R90). -/
inductive ShiftOp where
  | rlc | rrc | rl | rr | sla | sra | swap | srl
  deriving DecidableEq, Repr

/-- The instructions, one constructor for each row of spec/opcode_table.json, in the table's order, but for the
marker of slot 0xCB and the 11 unimplemented slots, which stand last.
A constructor's comment gives the row's assembly form and its rule. -/
inductive Instr where
  /-- NOP (R240) -/
  | nop
  /-- LD BC,d16 (R119) -/
  | ldBcD16 (nn : Word)
  /-- LD (BC),A (R108) -/
  | ldAtBcA
  /-- INC BC (R164) -/
  | incBc
  /-- INC B (R139) -/
  | incB
  /-- DEC B (R141) -/
  | decB
  /-- LD B,d8 (R103) -/
  | ldBD8 (n : Byte)
  /-- RLCA (R191) -/
  | rlca
  /-- LD (a16),SP (R120) -/
  | ldAtA16Sp (nn : Word)
  /-- ADD HL,BC (R160) -/
  | addHlBc
  /-- LD A,(BC) (R107) -/
  | ldAAtBc
  /-- DEC BC (R165) -/
  | decBc
  /-- INC C (R139) -/
  | incC
  /-- DEC C (R141) -/
  | decC
  /-- LD C,d8 (R103) -/
  | ldCD8 (n : Byte)
  /-- RRCA (R192) -/
  | rrca
  /-- STOP d8 (R244) -/
  | stop (n : Byte)
  /-- LD DE,d16 (R119) -/
  | ldDeD16 (nn : Word)
  /-- LD (DE),A (R108) -/
  | ldAtDeA
  /-- INC DE (R164) -/
  | incDe
  /-- INC D (R139) -/
  | incD
  /-- DEC D (R141) -/
  | decD
  /-- LD D,d8 (R103) -/
  | ldDD8 (n : Byte)
  /-- RLA (R193) -/
  | rla
  /-- JR e8 (R224) -/
  | jrE8 (n : Byte)
  /-- ADD HL,DE (R160) -/
  | addHlDe
  /-- LD A,(DE) (R107) -/
  | ldAAtDe
  /-- DEC DE (R165) -/
  | decDe
  /-- INC E (R139) -/
  | incE
  /-- DEC E (R141) -/
  | decE
  /-- LD E,d8 (R103) -/
  | ldED8 (n : Byte)
  /-- RRA (R194) -/
  | rra
  /-- JR NZ,e8 (R225) -/
  | jrNzE8 (n : Byte)
  /-- LD HL,d16 (R119) -/
  | ldHlD16 (nn : Word)
  /-- LD (HL+),A (R115) -/
  | ldAtHlIncA
  /-- INC HL (R164) -/
  | incHl
  /-- INC H (R139) -/
  | incH
  /-- DEC H (R141) -/
  | decH
  /-- LD H,d8 (R103) -/
  | ldHD8 (n : Byte)
  /-- DAA (R248) -/
  | daa
  /-- JR Z,e8 (R225) -/
  | jrZE8 (n : Byte)
  /-- ADD HL,HL (R160) -/
  | addHlHl
  /-- LD A,(HL+) (R116) -/
  | ldAAtHlInc
  /-- DEC HL (R165) -/
  | decHl
  /-- INC L (R139) -/
  | incL
  /-- DEC L (R141) -/
  | decL
  /-- LD L,d8 (R103) -/
  | ldLD8 (n : Byte)
  /-- CPL (R247) -/
  | cpl
  /-- JR NC,e8 (R225) -/
  | jrNcE8 (n : Byte)
  /-- LD SP,d16 (R119) -/
  | ldSpD16 (nn : Word)
  /-- LD (HL-),A (R117) -/
  | ldAtHlDecA
  /-- INC SP (R164) -/
  | incSp
  /-- INC (HL) (R140) -/
  | incAtHl
  /-- DEC (HL) (R142) -/
  | decAtHl
  /-- LD (HL),d8 (R106) -/
  | ldAtHlD8 (n : Byte)
  /-- SCF (R246) -/
  | scf
  /-- JR C,e8 (R225) -/
  | jrCE8 (n : Byte)
  /-- ADD HL,SP (R160) -/
  | addHlSp
  /-- LD A,(HL-) (R118) -/
  | ldAAtHlDec
  /-- DEC SP (R165) -/
  | decSp
  /-- INC A (R139) -/
  | incA
  /-- DEC A (R141) -/
  | decA
  /-- LD A,d8 (R103) -/
  | ldAD8 (n : Byte)
  /-- CCF (R245) -/
  | ccf
  /-- LD B,B (R102) -/
  | ldBB
  /-- LD B,C (R102) -/
  | ldBC
  /-- LD B,D (R102) -/
  | ldBD
  /-- LD B,E (R102) -/
  | ldBE
  /-- LD B,H (R102) -/
  | ldBH
  /-- LD B,L (R102) -/
  | ldBL
  /-- LD B,(HL) (R104) -/
  | ldBAtHl
  /-- LD B,A (R102) -/
  | ldBA
  /-- LD C,B (R102) -/
  | ldCB
  /-- LD C,C (R102) -/
  | ldCC
  /-- LD C,D (R102) -/
  | ldCD
  /-- LD C,E (R102) -/
  | ldCE
  /-- LD C,H (R102) -/
  | ldCH
  /-- LD C,L (R102) -/
  | ldCL
  /-- LD C,(HL) (R104) -/
  | ldCAtHl
  /-- LD C,A (R102) -/
  | ldCA
  /-- LD D,B (R102) -/
  | ldDB
  /-- LD D,C (R102) -/
  | ldDC
  /-- LD D,D (R102) -/
  | ldDD
  /-- LD D,E (R102) -/
  | ldDE
  /-- LD D,H (R102) -/
  | ldDH
  /-- LD D,L (R102) -/
  | ldDL
  /-- LD D,(HL) (R104) -/
  | ldDAtHl
  /-- LD D,A (R102) -/
  | ldDA
  /-- LD E,B (R102) -/
  | ldEB
  /-- LD E,C (R102) -/
  | ldEC
  /-- LD E,D (R102) -/
  | ldED
  /-- LD E,E (R102) -/
  | ldEE
  /-- LD E,H (R102) -/
  | ldEH
  /-- LD E,L (R102) -/
  | ldEL
  /-- LD E,(HL) (R104) -/
  | ldEAtHl
  /-- LD E,A (R102) -/
  | ldEA
  /-- LD H,B (R102) -/
  | ldHB
  /-- LD H,C (R102) -/
  | ldHC
  /-- LD H,D (R102) -/
  | ldHD
  /-- LD H,E (R102) -/
  | ldHE
  /-- LD H,H (R102) -/
  | ldHH
  /-- LD H,L (R102) -/
  | ldHL
  /-- LD H,(HL) (R104) -/
  | ldHAtHl
  /-- LD H,A (R102) -/
  | ldHA
  /-- LD L,B (R102) -/
  | ldLB
  /-- LD L,C (R102) -/
  | ldLC
  /-- LD L,D (R102) -/
  | ldLD
  /-- LD L,E (R102) -/
  | ldLE
  /-- LD L,H (R102) -/
  | ldLH
  /-- LD L,L (R102) -/
  | ldLL
  /-- LD L,(HL) (R104) -/
  | ldLAtHl
  /-- LD L,A (R102) -/
  | ldLA
  /-- LD (HL),B (R105) -/
  | ldAtHlB
  /-- LD (HL),C (R105) -/
  | ldAtHlC
  /-- LD (HL),D (R105) -/
  | ldAtHlD
  /-- LD (HL),E (R105) -/
  | ldAtHlE
  /-- LD (HL),H (R105) -/
  | ldAtHlH
  /-- LD (HL),L (R105) -/
  | ldAtHlL
  /-- HALT (R243) -/
  | halt
  /-- LD (HL),A (R105) -/
  | ldAtHlA
  /-- LD A,B (R102) -/
  | ldAB
  /-- LD A,C (R102) -/
  | ldAC
  /-- LD A,D (R102) -/
  | ldAD
  /-- LD A,E (R102) -/
  | ldAE
  /-- LD A,H (R102) -/
  | ldAH
  /-- LD A,L (R102) -/
  | ldAL
  /-- LD A,(HL) (R104) -/
  | ldAAtHl
  /-- LD A,A (R102) -/
  | ldAA
  /-- ADD A,B (R131) -/
  | addAB
  /-- ADD A,C (R131) -/
  | addAC
  /-- ADD A,D (R131) -/
  | addAD
  /-- ADD A,E (R131) -/
  | addAE
  /-- ADD A,H (R131) -/
  | addAH
  /-- ADD A,L (R131) -/
  | addAL
  /-- ADD A,(HL) (R131) -/
  | addAAtHl
  /-- ADD A,A (R131) -/
  | addAA
  /-- ADC A,B (R132) -/
  | adcAB
  /-- ADC A,C (R132) -/
  | adcAC
  /-- ADC A,D (R132) -/
  | adcAD
  /-- ADC A,E (R132) -/
  | adcAE
  /-- ADC A,H (R132) -/
  | adcAH
  /-- ADC A,L (R132) -/
  | adcAL
  /-- ADC A,(HL) (R132) -/
  | adcAAtHl
  /-- ADC A,A (R132) -/
  | adcAA
  /-- SUB A,B (R133) -/
  | subAB
  /-- SUB A,C (R133) -/
  | subAC
  /-- SUB A,D (R133) -/
  | subAD
  /-- SUB A,E (R133) -/
  | subAE
  /-- SUB A,H (R133) -/
  | subAH
  /-- SUB A,L (R133) -/
  | subAL
  /-- SUB A,(HL) (R133) -/
  | subAAtHl
  /-- SUB A,A (R133) -/
  | subAA
  /-- SBC A,B (R134) -/
  | sbcAB
  /-- SBC A,C (R134) -/
  | sbcAC
  /-- SBC A,D (R134) -/
  | sbcAD
  /-- SBC A,E (R134) -/
  | sbcAE
  /-- SBC A,H (R134) -/
  | sbcAH
  /-- SBC A,L (R134) -/
  | sbcAL
  /-- SBC A,(HL) (R134) -/
  | sbcAAtHl
  /-- SBC A,A (R134) -/
  | sbcAA
  /-- AND A,B (R135) -/
  | andAB
  /-- AND A,C (R135) -/
  | andAC
  /-- AND A,D (R135) -/
  | andAD
  /-- AND A,E (R135) -/
  | andAE
  /-- AND A,H (R135) -/
  | andAH
  /-- AND A,L (R135) -/
  | andAL
  /-- AND A,(HL) (R135) -/
  | andAAtHl
  /-- AND A,A (R135) -/
  | andAA
  /-- XOR A,B (R136) -/
  | xorAB
  /-- XOR A,C (R136) -/
  | xorAC
  /-- XOR A,D (R136) -/
  | xorAD
  /-- XOR A,E (R136) -/
  | xorAE
  /-- XOR A,H (R136) -/
  | xorAH
  /-- XOR A,L (R136) -/
  | xorAL
  /-- XOR A,(HL) (R136) -/
  | xorAAtHl
  /-- XOR A,A (R136) -/
  | xorAA
  /-- OR A,B (R137) -/
  | orAB
  /-- OR A,C (R137) -/
  | orAC
  /-- OR A,D (R137) -/
  | orAD
  /-- OR A,E (R137) -/
  | orAE
  /-- OR A,H (R137) -/
  | orAH
  /-- OR A,L (R137) -/
  | orAL
  /-- OR A,(HL) (R137) -/
  | orAAtHl
  /-- OR A,A (R137) -/
  | orAA
  /-- CP A,B (R138) -/
  | cpAB
  /-- CP A,C (R138) -/
  | cpAC
  /-- CP A,D (R138) -/
  | cpAD
  /-- CP A,E (R138) -/
  | cpAE
  /-- CP A,H (R138) -/
  | cpAH
  /-- CP A,L (R138) -/
  | cpAL
  /-- CP A,(HL) (R138) -/
  | cpAAtHl
  /-- CP A,A (R138) -/
  | cpAA
  /-- RET NZ (R229) -/
  | retNz
  /-- POP BC (R183) -/
  | popBc
  /-- JP NZ,a16 (R222) -/
  | jpNzA16 (nn : Word)
  /-- JP a16 (R221) -/
  | jpA16 (nn : Word)
  /-- CALL NZ,a16 (R227) -/
  | callNzA16 (nn : Word)
  /-- PUSH BC (R182) -/
  | pushBc
  /-- ADD A,d8 (R131) -/
  | addAD8 (n : Byte)
  /-- RST 00H (R231) -/
  | rst00
  /-- RET Z (R229) -/
  | retZ
  /-- RET (R228) -/
  | ret
  /-- JP Z,a16 (R222) -/
  | jpZA16 (nn : Word)
  /-- CALL Z,a16 (R227) -/
  | callZA16 (nn : Word)
  /-- CALL a16 (R226) -/
  | callA16 (nn : Word)
  /-- ADC A,d8 (R132) -/
  | adcAD8 (n : Byte)
  /-- RST 08H (R231) -/
  | rst08
  /-- RET NC (R229) -/
  | retNc
  /-- POP DE (R183) -/
  | popDe
  /-- JP NC,a16 (R222) -/
  | jpNcA16 (nn : Word)
  /-- CALL NC,a16 (R227) -/
  | callNcA16 (nn : Word)
  /-- PUSH DE (R182) -/
  | pushDe
  /-- SUB A,d8 (R133) -/
  | subAD8 (n : Byte)
  /-- RST 10H (R231) -/
  | rst10
  /-- RET C (R229) -/
  | retC
  /-- RETI (R230) -/
  | reti
  /-- JP C,a16 (R222) -/
  | jpCA16 (nn : Word)
  /-- CALL C,a16 (R227) -/
  | callCA16 (nn : Word)
  /-- SBC A,d8 (R134) -/
  | sbcAD8 (n : Byte)
  /-- RST 18H (R231) -/
  | rst18
  /-- LDH (a8),A (R112) -/
  | ldhAtA8A (n : Byte)
  /-- POP HL (R183) -/
  | popHl
  /-- LD (C),A (R114) -/
  | ldAtCA
  /-- PUSH HL (R182) -/
  | pushHl
  /-- AND A,d8 (R135) -/
  | andAD8 (n : Byte)
  /-- RST 20H (R231) -/
  | rst20
  /-- ADD SP,e8 (R162) -/
  | addSpE8 (n : Byte)
  /-- JP HL (R223) -/
  | jpHl
  /-- LD (a16),A (R110) -/
  | ldAtA16A (nn : Word)
  /-- XOR A,d8 (R136) -/
  | xorAD8 (n : Byte)
  /-- RST 28H (R231) -/
  | rst28
  /-- LDH A,(a8) (R111) -/
  | ldhAAtA8 (n : Byte)
  /-- POP AF (R183) -/
  | popAf
  /-- LD A,(C) (R113) -/
  | ldAAtC
  /-- DI (R241) -/
  | di
  /-- PUSH AF (R182) -/
  | pushAf
  /-- OR A,d8 (R137) -/
  | orAD8 (n : Byte)
  /-- RST 30H (R231) -/
  | rst30
  /-- LD HL,SP+e8 (R163) -/
  | ldHlSpE8 (n : Byte)
  /-- LD SP,HL (R121) -/
  | ldSpHl
  /-- LD A,(a16) (R109) -/
  | ldAAtA16 (nn : Word)
  /-- EI (R242) -/
  | ei
  /-- CP A,d8 (R138) -/
  | cpAD8 (n : Byte)
  /-- RST 38H (R231) -/
  | rst38
  /-- RLC B (R196) -/
  | rlcB
  /-- RLC C (R196) -/
  | rlcC
  /-- RLC D (R196) -/
  | rlcD
  /-- RLC E (R196) -/
  | rlcE
  /-- RLC H (R196) -/
  | rlcH
  /-- RLC L (R196) -/
  | rlcL
  /-- RLC (HL) (R196) -/
  | rlcAtHl
  /-- RLC A (R196) -/
  | rlcA
  /-- RRC B (R197) -/
  | rrcB
  /-- RRC C (R197) -/
  | rrcC
  /-- RRC D (R197) -/
  | rrcD
  /-- RRC E (R197) -/
  | rrcE
  /-- RRC H (R197) -/
  | rrcH
  /-- RRC L (R197) -/
  | rrcL
  /-- RRC (HL) (R197) -/
  | rrcAtHl
  /-- RRC A (R197) -/
  | rrcA
  /-- RL B (R198) -/
  | rlB
  /-- RL C (R198) -/
  | rlC
  /-- RL D (R198) -/
  | rlD
  /-- RL E (R198) -/
  | rlE
  /-- RL H (R198) -/
  | rlH
  /-- RL L (R198) -/
  | rlL
  /-- RL (HL) (R198) -/
  | rlAtHl
  /-- RL A (R198) -/
  | rlA
  /-- RR B (R199) -/
  | rrB
  /-- RR C (R199) -/
  | rrC
  /-- RR D (R199) -/
  | rrD
  /-- RR E (R199) -/
  | rrE
  /-- RR H (R199) -/
  | rrH
  /-- RR L (R199) -/
  | rrL
  /-- RR (HL) (R199) -/
  | rrAtHl
  /-- RR A (R199) -/
  | rrA
  /-- SLA B (R200) -/
  | slaB
  /-- SLA C (R200) -/
  | slaC
  /-- SLA D (R200) -/
  | slaD
  /-- SLA E (R200) -/
  | slaE
  /-- SLA H (R200) -/
  | slaH
  /-- SLA L (R200) -/
  | slaL
  /-- SLA (HL) (R200) -/
  | slaAtHl
  /-- SLA A (R200) -/
  | slaA
  /-- SRA B (R201) -/
  | sraB
  /-- SRA C (R201) -/
  | sraC
  /-- SRA D (R201) -/
  | sraD
  /-- SRA E (R201) -/
  | sraE
  /-- SRA H (R201) -/
  | sraH
  /-- SRA L (R201) -/
  | sraL
  /-- SRA (HL) (R201) -/
  | sraAtHl
  /-- SRA A (R201) -/
  | sraA
  /-- SWAP B (R202) -/
  | swapB
  /-- SWAP C (R202) -/
  | swapC
  /-- SWAP D (R202) -/
  | swapD
  /-- SWAP E (R202) -/
  | swapE
  /-- SWAP H (R202) -/
  | swapH
  /-- SWAP L (R202) -/
  | swapL
  /-- SWAP (HL) (R202) -/
  | swapAtHl
  /-- SWAP A (R202) -/
  | swapA
  /-- SRL B (R203) -/
  | srlB
  /-- SRL C (R203) -/
  | srlC
  /-- SRL D (R203) -/
  | srlD
  /-- SRL E (R203) -/
  | srlE
  /-- SRL H (R203) -/
  | srlH
  /-- SRL L (R203) -/
  | srlL
  /-- SRL (HL) (R203) -/
  | srlAtHl
  /-- SRL A (R203) -/
  | srlA
  /-- BIT 0,B (R204) -/
  | bit0B
  /-- BIT 0,C (R204) -/
  | bit0C
  /-- BIT 0,D (R204) -/
  | bit0D
  /-- BIT 0,E (R204) -/
  | bit0E
  /-- BIT 0,H (R204) -/
  | bit0H
  /-- BIT 0,L (R204) -/
  | bit0L
  /-- BIT 0,(HL) (R204) -/
  | bit0AtHl
  /-- BIT 0,A (R204) -/
  | bit0A
  /-- BIT 1,B (R204) -/
  | bit1B
  /-- BIT 1,C (R204) -/
  | bit1C
  /-- BIT 1,D (R204) -/
  | bit1D
  /-- BIT 1,E (R204) -/
  | bit1E
  /-- BIT 1,H (R204) -/
  | bit1H
  /-- BIT 1,L (R204) -/
  | bit1L
  /-- BIT 1,(HL) (R204) -/
  | bit1AtHl
  /-- BIT 1,A (R204) -/
  | bit1A
  /-- BIT 2,B (R204) -/
  | bit2B
  /-- BIT 2,C (R204) -/
  | bit2C
  /-- BIT 2,D (R204) -/
  | bit2D
  /-- BIT 2,E (R204) -/
  | bit2E
  /-- BIT 2,H (R204) -/
  | bit2H
  /-- BIT 2,L (R204) -/
  | bit2L
  /-- BIT 2,(HL) (R204) -/
  | bit2AtHl
  /-- BIT 2,A (R204) -/
  | bit2A
  /-- BIT 3,B (R204) -/
  | bit3B
  /-- BIT 3,C (R204) -/
  | bit3C
  /-- BIT 3,D (R204) -/
  | bit3D
  /-- BIT 3,E (R204) -/
  | bit3E
  /-- BIT 3,H (R204) -/
  | bit3H
  /-- BIT 3,L (R204) -/
  | bit3L
  /-- BIT 3,(HL) (R204) -/
  | bit3AtHl
  /-- BIT 3,A (R204) -/
  | bit3A
  /-- BIT 4,B (R204) -/
  | bit4B
  /-- BIT 4,C (R204) -/
  | bit4C
  /-- BIT 4,D (R204) -/
  | bit4D
  /-- BIT 4,E (R204) -/
  | bit4E
  /-- BIT 4,H (R204) -/
  | bit4H
  /-- BIT 4,L (R204) -/
  | bit4L
  /-- BIT 4,(HL) (R204) -/
  | bit4AtHl
  /-- BIT 4,A (R204) -/
  | bit4A
  /-- BIT 5,B (R204) -/
  | bit5B
  /-- BIT 5,C (R204) -/
  | bit5C
  /-- BIT 5,D (R204) -/
  | bit5D
  /-- BIT 5,E (R204) -/
  | bit5E
  /-- BIT 5,H (R204) -/
  | bit5H
  /-- BIT 5,L (R204) -/
  | bit5L
  /-- BIT 5,(HL) (R204) -/
  | bit5AtHl
  /-- BIT 5,A (R204) -/
  | bit5A
  /-- BIT 6,B (R204) -/
  | bit6B
  /-- BIT 6,C (R204) -/
  | bit6C
  /-- BIT 6,D (R204) -/
  | bit6D
  /-- BIT 6,E (R204) -/
  | bit6E
  /-- BIT 6,H (R204) -/
  | bit6H
  /-- BIT 6,L (R204) -/
  | bit6L
  /-- BIT 6,(HL) (R204) -/
  | bit6AtHl
  /-- BIT 6,A (R204) -/
  | bit6A
  /-- BIT 7,B (R204) -/
  | bit7B
  /-- BIT 7,C (R204) -/
  | bit7C
  /-- BIT 7,D (R204) -/
  | bit7D
  /-- BIT 7,E (R204) -/
  | bit7E
  /-- BIT 7,H (R204) -/
  | bit7H
  /-- BIT 7,L (R204) -/
  | bit7L
  /-- BIT 7,(HL) (R204) -/
  | bit7AtHl
  /-- BIT 7,A (R204) -/
  | bit7A
  /-- RES 0,B (R205) -/
  | res0B
  /-- RES 0,C (R205) -/
  | res0C
  /-- RES 0,D (R205) -/
  | res0D
  /-- RES 0,E (R205) -/
  | res0E
  /-- RES 0,H (R205) -/
  | res0H
  /-- RES 0,L (R205) -/
  | res0L
  /-- RES 0,(HL) (R205) -/
  | res0AtHl
  /-- RES 0,A (R205) -/
  | res0A
  /-- RES 1,B (R205) -/
  | res1B
  /-- RES 1,C (R205) -/
  | res1C
  /-- RES 1,D (R205) -/
  | res1D
  /-- RES 1,E (R205) -/
  | res1E
  /-- RES 1,H (R205) -/
  | res1H
  /-- RES 1,L (R205) -/
  | res1L
  /-- RES 1,(HL) (R205) -/
  | res1AtHl
  /-- RES 1,A (R205) -/
  | res1A
  /-- RES 2,B (R205) -/
  | res2B
  /-- RES 2,C (R205) -/
  | res2C
  /-- RES 2,D (R205) -/
  | res2D
  /-- RES 2,E (R205) -/
  | res2E
  /-- RES 2,H (R205) -/
  | res2H
  /-- RES 2,L (R205) -/
  | res2L
  /-- RES 2,(HL) (R205) -/
  | res2AtHl
  /-- RES 2,A (R205) -/
  | res2A
  /-- RES 3,B (R205) -/
  | res3B
  /-- RES 3,C (R205) -/
  | res3C
  /-- RES 3,D (R205) -/
  | res3D
  /-- RES 3,E (R205) -/
  | res3E
  /-- RES 3,H (R205) -/
  | res3H
  /-- RES 3,L (R205) -/
  | res3L
  /-- RES 3,(HL) (R205) -/
  | res3AtHl
  /-- RES 3,A (R205) -/
  | res3A
  /-- RES 4,B (R205) -/
  | res4B
  /-- RES 4,C (R205) -/
  | res4C
  /-- RES 4,D (R205) -/
  | res4D
  /-- RES 4,E (R205) -/
  | res4E
  /-- RES 4,H (R205) -/
  | res4H
  /-- RES 4,L (R205) -/
  | res4L
  /-- RES 4,(HL) (R205) -/
  | res4AtHl
  /-- RES 4,A (R205) -/
  | res4A
  /-- RES 5,B (R205) -/
  | res5B
  /-- RES 5,C (R205) -/
  | res5C
  /-- RES 5,D (R205) -/
  | res5D
  /-- RES 5,E (R205) -/
  | res5E
  /-- RES 5,H (R205) -/
  | res5H
  /-- RES 5,L (R205) -/
  | res5L
  /-- RES 5,(HL) (R205) -/
  | res5AtHl
  /-- RES 5,A (R205) -/
  | res5A
  /-- RES 6,B (R205) -/
  | res6B
  /-- RES 6,C (R205) -/
  | res6C
  /-- RES 6,D (R205) -/
  | res6D
  /-- RES 6,E (R205) -/
  | res6E
  /-- RES 6,H (R205) -/
  | res6H
  /-- RES 6,L (R205) -/
  | res6L
  /-- RES 6,(HL) (R205) -/
  | res6AtHl
  /-- RES 6,A (R205) -/
  | res6A
  /-- RES 7,B (R205) -/
  | res7B
  /-- RES 7,C (R205) -/
  | res7C
  /-- RES 7,D (R205) -/
  | res7D
  /-- RES 7,E (R205) -/
  | res7E
  /-- RES 7,H (R205) -/
  | res7H
  /-- RES 7,L (R205) -/
  | res7L
  /-- RES 7,(HL) (R205) -/
  | res7AtHl
  /-- RES 7,A (R205) -/
  | res7A
  /-- SET 0,B (R206) -/
  | set0B
  /-- SET 0,C (R206) -/
  | set0C
  /-- SET 0,D (R206) -/
  | set0D
  /-- SET 0,E (R206) -/
  | set0E
  /-- SET 0,H (R206) -/
  | set0H
  /-- SET 0,L (R206) -/
  | set0L
  /-- SET 0,(HL) (R206) -/
  | set0AtHl
  /-- SET 0,A (R206) -/
  | set0A
  /-- SET 1,B (R206) -/
  | set1B
  /-- SET 1,C (R206) -/
  | set1C
  /-- SET 1,D (R206) -/
  | set1D
  /-- SET 1,E (R206) -/
  | set1E
  /-- SET 1,H (R206) -/
  | set1H
  /-- SET 1,L (R206) -/
  | set1L
  /-- SET 1,(HL) (R206) -/
  | set1AtHl
  /-- SET 1,A (R206) -/
  | set1A
  /-- SET 2,B (R206) -/
  | set2B
  /-- SET 2,C (R206) -/
  | set2C
  /-- SET 2,D (R206) -/
  | set2D
  /-- SET 2,E (R206) -/
  | set2E
  /-- SET 2,H (R206) -/
  | set2H
  /-- SET 2,L (R206) -/
  | set2L
  /-- SET 2,(HL) (R206) -/
  | set2AtHl
  /-- SET 2,A (R206) -/
  | set2A
  /-- SET 3,B (R206) -/
  | set3B
  /-- SET 3,C (R206) -/
  | set3C
  /-- SET 3,D (R206) -/
  | set3D
  /-- SET 3,E (R206) -/
  | set3E
  /-- SET 3,H (R206) -/
  | set3H
  /-- SET 3,L (R206) -/
  | set3L
  /-- SET 3,(HL) (R206) -/
  | set3AtHl
  /-- SET 3,A (R206) -/
  | set3A
  /-- SET 4,B (R206) -/
  | set4B
  /-- SET 4,C (R206) -/
  | set4C
  /-- SET 4,D (R206) -/
  | set4D
  /-- SET 4,E (R206) -/
  | set4E
  /-- SET 4,H (R206) -/
  | set4H
  /-- SET 4,L (R206) -/
  | set4L
  /-- SET 4,(HL) (R206) -/
  | set4AtHl
  /-- SET 4,A (R206) -/
  | set4A
  /-- SET 5,B (R206) -/
  | set5B
  /-- SET 5,C (R206) -/
  | set5C
  /-- SET 5,D (R206) -/
  | set5D
  /-- SET 5,E (R206) -/
  | set5E
  /-- SET 5,H (R206) -/
  | set5H
  /-- SET 5,L (R206) -/
  | set5L
  /-- SET 5,(HL) (R206) -/
  | set5AtHl
  /-- SET 5,A (R206) -/
  | set5A
  /-- SET 6,B (R206) -/
  | set6B
  /-- SET 6,C (R206) -/
  | set6C
  /-- SET 6,D (R206) -/
  | set6D
  /-- SET 6,E (R206) -/
  | set6E
  /-- SET 6,H (R206) -/
  | set6H
  /-- SET 6,L (R206) -/
  | set6L
  /-- SET 6,(HL) (R206) -/
  | set6AtHl
  /-- SET 6,A (R206) -/
  | set6A
  /-- SET 7,B (R206) -/
  | set7B
  /-- SET 7,C (R206) -/
  | set7C
  /-- SET 7,D (R206) -/
  | set7D
  /-- SET 7,E (R206) -/
  | set7E
  /-- SET 7,H (R206) -/
  | set7H
  /-- SET 7,L (R206) -/
  | set7L
  /-- SET 7,(HL) (R206) -/
  | set7AtHl
  /-- SET 7,A (R206) -/
  | set7A
  /-- the marker of primary slot 0xCB: fetch a second byte, index the CB table (R86) -/
  | prefixCb
  /-- unimplemented slot 0xD3 (R89) -/
  | unimplementedD3
  /-- unimplemented slot 0xDB (R89) -/
  | unimplementedDB
  /-- unimplemented slot 0xDD (R89) -/
  | unimplementedDD
  /-- unimplemented slot 0xE3 (R89) -/
  | unimplementedE3
  /-- unimplemented slot 0xE4 (R89) -/
  | unimplementedE4
  /-- unimplemented slot 0xEB (R89) -/
  | unimplementedEB
  /-- unimplemented slot 0xEC (R89) -/
  | unimplementedEC
  /-- unimplemented slot 0xED (R89) -/
  | unimplementedED
  /-- unimplemented slot 0xF4 (R89) -/
  | unimplementedF4
  /-- unimplemented slot 0xFC (R89) -/
  | unimplementedFC
  /-- unimplemented slot 0xFD (R89) -/
  | unimplementedFD
  deriving DecidableEq, Repr

end Sys2Proof
end

