-- ==== Sys2Proof/WellFormed.lean ====
section
/-! DEFINITION. Which terms of `Instr` are instructions of the machine. Operands are typed at the width
of their field, so no operand can be out of range; the one check is that the term is an instruction. -/

namespace Sys2Proof

/-- A term is an instruction unless it is the marker of primary slot 0xCB, which names none of its
own (spec/30_encoding.md R86: "0xCB never names an instruction of its own"). -/
def Instr.isWellFormed (i : Instr) : Bool :=
  match i with
  | .prefixCb => false
  | _ => true

/-- The proposition behind `Instr.isWellFormed`. -/
abbrev Instr.WellFormed (i : Instr) : Prop := i.isWellFormed = true

end Sys2Proof
end

