-- ==== Sys2Proof/Decode.lean ====
section
/-! DEFINITION. Decoding and encoding (spec/30_encoding.md): the fields of an opcode byte (R71), the map of
both tables by field (R88, R90), the two tables of the dispatch ROM (R87), the decoder over any list of
bytes (R86, R91), and the encoder. The primary table is written from R88's table, the CB table from
R90's rows by field, the encoder from the "match" column of spec/opcode_table.json. -/

namespace Sys2Proof

/-! ### Byte order and fields -/

/-- The 16-bit value with the given halves (R25, R73): `(hi << 8) | lo`. -/
def wordOf (hi lo : Byte) : Word := hi ++ lo

/-- The high half `v[15:8]` of a 16-bit value (R7). -/
def hiByte (w : Word) : Byte := w.extractLsb' 8 8

/-- The low half `v[7:0]` of a 16-bit value (R7). -/
def loByte (w : Word) : Byte := w.extractLsb' 0 8

/-- Field x of an opcode byte, op[7:6] (R71). -/
def fieldX (op : Byte) : Nat := op.toNat / 64

/-- Field y of an opcode byte, op[5:3] (R71). -/
def fieldY (op : Byte) : Nat := op.toNat / 8 % 8

/-- Field z of an opcode byte, op[2:0] (R71). -/
def fieldZ (op : Byte) : Nat := op.toNat % 8

/-- The 8-bit operand a register code names (R76). -/
def opndOfCode (code : Nat) : Opnd8 :=
  match code with
  | 0 => .reg .b
  | 1 => .reg .c
  | 2 => .reg .d
  | 3 => .reg .e
  | 4 => .reg .h
  | 5 => .reg .l
  | 6 => .atHl
  | _ => .reg .a

/-- The register code of an 8-bit operand (R76). -/
def opndCode (o : Opnd8) : Nat :=
  match o with
  | .reg .b => 0
  | .reg .c => 1
  | .reg .d => 2
  | .reg .e => 3
  | .reg .h => 4
  | .reg .l => 5
  | .atHl => 6
  | .reg .a => 7

/-- The CB operation a code y selects (R90). -/
def shiftOfCode (code : Nat) : ShiftOp :=
  match code with
  | 0 => .rlc
  | 1 => .rrc
  | 2 => .rl
  | 3 => .rr
  | 4 => .sla
  | 5 => .sra
  | 6 => .swap
  | _ => .srl

/-- The code y of a CB operation (R90). -/
def shiftCode (op : ShiftOp) : Nat :=
  match op with
  | .rlc => 0
  | .rrc => 1
  | .rl => 2
  | .rr => 3
  | .sla => 4
  | .sra => 5
  | .swap => 6
  | .srl => 7

/-- The code k of an accumulator operation (R130). -/
def aluCode (op : AluOp) : Nat :=
  match op with
  | .add => 0
  | .adc => 1
  | .sub => 2
  | .sbc => 3
  | .and => 4
  | .xor => 5
  | .or => 6
  | .cp => 7

/-- The pair code p of the SP group (R78). -/
def reg16Code (r : Reg16) : Nat :=
  match r with
  | .bc => 0
  | .de => 1
  | .hl => 2
  | .sp => 3

/-- The pair code p of the AF group (R79). -/
def pairCode (p : Pair) : Nat :=
  match p with
  | .bc => 0
  | .de => 1
  | .hl => 2
  | .af => 3

/-- The condition code cc (R80). -/
def condCode (cc : Cond) : Nat :=
  match cc with
  | .nz => 0
  | .z => 1
  | .nc => 2
  | .c => 3

/-! ### The maps by field (R88, R90): which row an operand selects -/

/-- x=1 (R88): `LD r[y],r[z]`, except that the slot of `LD (HL),(HL)` is HALT. -/
def rowLd (dst src : Opnd8) : Instr :=
  match dst, src with
  | .reg .b, .reg .b => .ldBB
  | .reg .b, .reg .c => .ldBC
  | .reg .b, .reg .d => .ldBD
  | .reg .b, .reg .e => .ldBE
  | .reg .b, .reg .h => .ldBH
  | .reg .b, .reg .l => .ldBL
  | .reg .b, .atHl => .ldBAtHl
  | .reg .b, .reg .a => .ldBA
  | .reg .c, .reg .b => .ldCB
  | .reg .c, .reg .c => .ldCC
  | .reg .c, .reg .d => .ldCD
  | .reg .c, .reg .e => .ldCE
  | .reg .c, .reg .h => .ldCH
  | .reg .c, .reg .l => .ldCL
  | .reg .c, .atHl => .ldCAtHl
  | .reg .c, .reg .a => .ldCA
  | .reg .d, .reg .b => .ldDB
  | .reg .d, .reg .c => .ldDC
  | .reg .d, .reg .d => .ldDD
  | .reg .d, .reg .e => .ldDE
  | .reg .d, .reg .h => .ldDH
  | .reg .d, .reg .l => .ldDL
  | .reg .d, .atHl => .ldDAtHl
  | .reg .d, .reg .a => .ldDA
  | .reg .e, .reg .b => .ldEB
  | .reg .e, .reg .c => .ldEC
  | .reg .e, .reg .d => .ldED
  | .reg .e, .reg .e => .ldEE
  | .reg .e, .reg .h => .ldEH
  | .reg .e, .reg .l => .ldEL
  | .reg .e, .atHl => .ldEAtHl
  | .reg .e, .reg .a => .ldEA
  | .reg .h, .reg .b => .ldHB
  | .reg .h, .reg .c => .ldHC
  | .reg .h, .reg .d => .ldHD
  | .reg .h, .reg .e => .ldHE
  | .reg .h, .reg .h => .ldHH
  | .reg .h, .reg .l => .ldHL
  | .reg .h, .atHl => .ldHAtHl
  | .reg .h, .reg .a => .ldHA
  | .reg .l, .reg .b => .ldLB
  | .reg .l, .reg .c => .ldLC
  | .reg .l, .reg .d => .ldLD
  | .reg .l, .reg .e => .ldLE
  | .reg .l, .reg .h => .ldLH
  | .reg .l, .reg .l => .ldLL
  | .reg .l, .atHl => .ldLAtHl
  | .reg .l, .reg .a => .ldLA
  | .atHl, .reg .b => .ldAtHlB
  | .atHl, .reg .c => .ldAtHlC
  | .atHl, .reg .d => .ldAtHlD
  | .atHl, .reg .e => .ldAtHlE
  | .atHl, .reg .h => .ldAtHlH
  | .atHl, .reg .l => .ldAtHlL
  | .atHl, .atHl => .halt
  | .atHl, .reg .a => .ldAtHlA
  | .reg .a, .reg .b => .ldAB
  | .reg .a, .reg .c => .ldAC
  | .reg .a, .reg .d => .ldAD
  | .reg .a, .reg .e => .ldAE
  | .reg .a, .reg .h => .ldAH
  | .reg .a, .reg .l => .ldAL
  | .reg .a, .atHl => .ldAAtHl
  | .reg .a, .reg .a => .ldAA

/-- x=0, z=6 (R88): `LD r[y],d8`. -/
def rowLdImm (dst : Opnd8) (n : Byte) : Instr :=
  match dst with
  | .reg .b => .ldBD8 n
  | .reg .c => .ldCD8 n
  | .reg .d => .ldDD8 n
  | .reg .e => .ldED8 n
  | .reg .h => .ldHD8 n
  | .reg .l => .ldLD8 n
  | .atHl => .ldAtHlD8 n
  | .reg .a => .ldAD8 n

/-- x=2 and x=3, z=6 (R88, R130): `ALU[k] A,r[z]` and `ALU[k] A,d8`. -/
def rowAlu (op : AluOp) (src : AluSrc) : Instr :=
  match op, src with
  | .add, .opnd (.reg .b) => .addAB
  | .add, .opnd (.reg .c) => .addAC
  | .add, .opnd (.reg .d) => .addAD
  | .add, .opnd (.reg .e) => .addAE
  | .add, .opnd (.reg .h) => .addAH
  | .add, .opnd (.reg .l) => .addAL
  | .add, .opnd .atHl => .addAAtHl
  | .add, .opnd (.reg .a) => .addAA
  | .adc, .opnd (.reg .b) => .adcAB
  | .adc, .opnd (.reg .c) => .adcAC
  | .adc, .opnd (.reg .d) => .adcAD
  | .adc, .opnd (.reg .e) => .adcAE
  | .adc, .opnd (.reg .h) => .adcAH
  | .adc, .opnd (.reg .l) => .adcAL
  | .adc, .opnd .atHl => .adcAAtHl
  | .adc, .opnd (.reg .a) => .adcAA
  | .sub, .opnd (.reg .b) => .subAB
  | .sub, .opnd (.reg .c) => .subAC
  | .sub, .opnd (.reg .d) => .subAD
  | .sub, .opnd (.reg .e) => .subAE
  | .sub, .opnd (.reg .h) => .subAH
  | .sub, .opnd (.reg .l) => .subAL
  | .sub, .opnd .atHl => .subAAtHl
  | .sub, .opnd (.reg .a) => .subAA
  | .sbc, .opnd (.reg .b) => .sbcAB
  | .sbc, .opnd (.reg .c) => .sbcAC
  | .sbc, .opnd (.reg .d) => .sbcAD
  | .sbc, .opnd (.reg .e) => .sbcAE
  | .sbc, .opnd (.reg .h) => .sbcAH
  | .sbc, .opnd (.reg .l) => .sbcAL
  | .sbc, .opnd .atHl => .sbcAAtHl
  | .sbc, .opnd (.reg .a) => .sbcAA
  | .and, .opnd (.reg .b) => .andAB
  | .and, .opnd (.reg .c) => .andAC
  | .and, .opnd (.reg .d) => .andAD
  | .and, .opnd (.reg .e) => .andAE
  | .and, .opnd (.reg .h) => .andAH
  | .and, .opnd (.reg .l) => .andAL
  | .and, .opnd .atHl => .andAAtHl
  | .and, .opnd (.reg .a) => .andAA
  | .xor, .opnd (.reg .b) => .xorAB
  | .xor, .opnd (.reg .c) => .xorAC
  | .xor, .opnd (.reg .d) => .xorAD
  | .xor, .opnd (.reg .e) => .xorAE
  | .xor, .opnd (.reg .h) => .xorAH
  | .xor, .opnd (.reg .l) => .xorAL
  | .xor, .opnd .atHl => .xorAAtHl
  | .xor, .opnd (.reg .a) => .xorAA
  | .or, .opnd (.reg .b) => .orAB
  | .or, .opnd (.reg .c) => .orAC
  | .or, .opnd (.reg .d) => .orAD
  | .or, .opnd (.reg .e) => .orAE
  | .or, .opnd (.reg .h) => .orAH
  | .or, .opnd (.reg .l) => .orAL
  | .or, .opnd .atHl => .orAAtHl
  | .or, .opnd (.reg .a) => .orAA
  | .cp, .opnd (.reg .b) => .cpAB
  | .cp, .opnd (.reg .c) => .cpAC
  | .cp, .opnd (.reg .d) => .cpAD
  | .cp, .opnd (.reg .e) => .cpAE
  | .cp, .opnd (.reg .h) => .cpAH
  | .cp, .opnd (.reg .l) => .cpAL
  | .cp, .opnd .atHl => .cpAAtHl
  | .cp, .opnd (.reg .a) => .cpAA
  | .add, .imm n => .addAD8 n
  | .adc, .imm n => .adcAD8 n
  | .sub, .imm n => .subAD8 n
  | .sbc, .imm n => .sbcAD8 n
  | .and, .imm n => .andAD8 n
  | .xor, .imm n => .xorAD8 n
  | .or, .imm n => .orAD8 n
  | .cp, .imm n => .cpAD8 n

/-- x=0, z=4 (R88): `INC r[y]`. -/
def rowInc (o : Opnd8) : Instr :=
  match o with
  | .reg .b => .incB
  | .reg .c => .incC
  | .reg .d => .incD
  | .reg .e => .incE
  | .reg .h => .incH
  | .reg .l => .incL
  | .atHl => .incAtHl
  | .reg .a => .incA

/-- x=0, z=5 (R88): `DEC r[y]`. -/
def rowDec (o : Opnd8) : Instr :=
  match o with
  | .reg .b => .decB
  | .reg .c => .decC
  | .reg .d => .decD
  | .reg .e => .decE
  | .reg .h => .decH
  | .reg .l => .decL
  | .atHl => .decAtHl
  | .reg .a => .decA

/-- x=0, z=1, q=0 (R88): `LD rp[p],d16`. -/
def rowLdPair (r : Reg16) (nn : Word) : Instr :=
  match r with
  | .bc => .ldBcD16 nn
  | .de => .ldDeD16 nn
  | .hl => .ldHlD16 nn
  | .sp => .ldSpD16 nn

/-- x=0, z=1, q=1 (R88): `ADD HL,rp[p]`. -/
def rowAddHl (r : Reg16) : Instr :=
  match r with
  | .bc => .addHlBc
  | .de => .addHlDe
  | .hl => .addHlHl
  | .sp => .addHlSp

/-- x=0, z=3, q=0 (R88): `INC rp[p]`. -/
def rowIncPair (r : Reg16) : Instr :=
  match r with
  | .bc => .incBc
  | .de => .incDe
  | .hl => .incHl
  | .sp => .incSp

/-- x=0, z=3, q=1 (R88): `DEC rp[p]`. -/
def rowDecPair (r : Reg16) : Instr :=
  match r with
  | .bc => .decBc
  | .de => .decDe
  | .hl => .decHl
  | .sp => .decSp

/-- x=3, z=5, q=0 (R88): `PUSH rp2[p]`. -/
def rowPush (p : Pair) : Instr :=
  match p with
  | .bc => .pushBc
  | .de => .pushDe
  | .hl => .pushHl
  | .af => .pushAf

/-- x=3, z=1, q=0 (R88): `POP rp2[p]`. -/
def rowPop (p : Pair) : Instr :=
  match p with
  | .bc => .popBc
  | .de => .popDe
  | .hl => .popHl
  | .af => .popAf

/-- `JP cc,a16` (R80, R222). -/
def rowJp (cc : Cond) (nn : Word) : Instr :=
  match cc with
  | .nz => .jpNzA16 nn
  | .z => .jpZA16 nn
  | .nc => .jpNcA16 nn
  | .c => .jpCA16 nn

/-- `JR cc,e8` (R80, R225). -/
def rowJr (cc : Cond) (n : Byte) : Instr :=
  match cc with
  | .nz => .jrNzE8 n
  | .z => .jrZE8 n
  | .nc => .jrNcE8 n
  | .c => .jrCE8 n

/-- `CALL cc,a16` (R80, R227). -/
def rowCall (cc : Cond) (nn : Word) : Instr :=
  match cc with
  | .nz => .callNzA16 nn
  | .z => .callZA16 nn
  | .nc => .callNcA16 nn
  | .c => .callCA16 nn

/-- `RET cc` (R80, R229). -/
def rowRet (cc : Cond) : Instr :=
  match cc with
  | .nz => .retNz
  | .z => .retZ
  | .nc => .retNc
  | .c => .retC

/-- x=3, z=7 (R88): `RST y*8`. -/
def rowRst (y : Fin 8) : Instr :=
  match y with
  | 0 => .rst00
  | 1 => .rst08
  | 2 => .rst10
  | 3 => .rst18
  | 4 => .rst20
  | 5 => .rst28
  | 6 => .rst30
  | 7 => .rst38

/-- CB table, op2[7:6] = 00 (R90): the rotate or shift y on r[z]. -/
def rowShift (op : ShiftOp) (o : Opnd8) : Instr :=
  match op, o with
  | .rlc, .reg .b => .rlcB
  | .rlc, .reg .c => .rlcC
  | .rlc, .reg .d => .rlcD
  | .rlc, .reg .e => .rlcE
  | .rlc, .reg .h => .rlcH
  | .rlc, .reg .l => .rlcL
  | .rlc, .atHl => .rlcAtHl
  | .rlc, .reg .a => .rlcA
  | .rrc, .reg .b => .rrcB
  | .rrc, .reg .c => .rrcC
  | .rrc, .reg .d => .rrcD
  | .rrc, .reg .e => .rrcE
  | .rrc, .reg .h => .rrcH
  | .rrc, .reg .l => .rrcL
  | .rrc, .atHl => .rrcAtHl
  | .rrc, .reg .a => .rrcA
  | .rl, .reg .b => .rlB
  | .rl, .reg .c => .rlC
  | .rl, .reg .d => .rlD
  | .rl, .reg .e => .rlE
  | .rl, .reg .h => .rlH
  | .rl, .reg .l => .rlL
  | .rl, .atHl => .rlAtHl
  | .rl, .reg .a => .rlA
  | .rr, .reg .b => .rrB
  | .rr, .reg .c => .rrC
  | .rr, .reg .d => .rrD
  | .rr, .reg .e => .rrE
  | .rr, .reg .h => .rrH
  | .rr, .reg .l => .rrL
  | .rr, .atHl => .rrAtHl
  | .rr, .reg .a => .rrA
  | .sla, .reg .b => .slaB
  | .sla, .reg .c => .slaC
  | .sla, .reg .d => .slaD
  | .sla, .reg .e => .slaE
  | .sla, .reg .h => .slaH
  | .sla, .reg .l => .slaL
  | .sla, .atHl => .slaAtHl
  | .sla, .reg .a => .slaA
  | .sra, .reg .b => .sraB
  | .sra, .reg .c => .sraC
  | .sra, .reg .d => .sraD
  | .sra, .reg .e => .sraE
  | .sra, .reg .h => .sraH
  | .sra, .reg .l => .sraL
  | .sra, .atHl => .sraAtHl
  | .sra, .reg .a => .sraA
  | .swap, .reg .b => .swapB
  | .swap, .reg .c => .swapC
  | .swap, .reg .d => .swapD
  | .swap, .reg .e => .swapE
  | .swap, .reg .h => .swapH
  | .swap, .reg .l => .swapL
  | .swap, .atHl => .swapAtHl
  | .swap, .reg .a => .swapA
  | .srl, .reg .b => .srlB
  | .srl, .reg .c => .srlC
  | .srl, .reg .d => .srlD
  | .srl, .reg .e => .srlE
  | .srl, .reg .h => .srlH
  | .srl, .reg .l => .srlL
  | .srl, .atHl => .srlAtHl
  | .srl, .reg .a => .srlA

/-- CB table, op2[7:6] = 01 (R90): `BIT y,r[z]`. -/
def rowBit (y : Fin 8) (o : Opnd8) : Instr :=
  match y, o with
  | 0, .reg .b => .bit0B
  | 0, .reg .c => .bit0C
  | 0, .reg .d => .bit0D
  | 0, .reg .e => .bit0E
  | 0, .reg .h => .bit0H
  | 0, .reg .l => .bit0L
  | 0, .atHl => .bit0AtHl
  | 0, .reg .a => .bit0A
  | 1, .reg .b => .bit1B
  | 1, .reg .c => .bit1C
  | 1, .reg .d => .bit1D
  | 1, .reg .e => .bit1E
  | 1, .reg .h => .bit1H
  | 1, .reg .l => .bit1L
  | 1, .atHl => .bit1AtHl
  | 1, .reg .a => .bit1A
  | 2, .reg .b => .bit2B
  | 2, .reg .c => .bit2C
  | 2, .reg .d => .bit2D
  | 2, .reg .e => .bit2E
  | 2, .reg .h => .bit2H
  | 2, .reg .l => .bit2L
  | 2, .atHl => .bit2AtHl
  | 2, .reg .a => .bit2A
  | 3, .reg .b => .bit3B
  | 3, .reg .c => .bit3C
  | 3, .reg .d => .bit3D
  | 3, .reg .e => .bit3E
  | 3, .reg .h => .bit3H
  | 3, .reg .l => .bit3L
  | 3, .atHl => .bit3AtHl
  | 3, .reg .a => .bit3A
  | 4, .reg .b => .bit4B
  | 4, .reg .c => .bit4C
  | 4, .reg .d => .bit4D
  | 4, .reg .e => .bit4E
  | 4, .reg .h => .bit4H
  | 4, .reg .l => .bit4L
  | 4, .atHl => .bit4AtHl
  | 4, .reg .a => .bit4A
  | 5, .reg .b => .bit5B
  | 5, .reg .c => .bit5C
  | 5, .reg .d => .bit5D
  | 5, .reg .e => .bit5E
  | 5, .reg .h => .bit5H
  | 5, .reg .l => .bit5L
  | 5, .atHl => .bit5AtHl
  | 5, .reg .a => .bit5A
  | 6, .reg .b => .bit6B
  | 6, .reg .c => .bit6C
  | 6, .reg .d => .bit6D
  | 6, .reg .e => .bit6E
  | 6, .reg .h => .bit6H
  | 6, .reg .l => .bit6L
  | 6, .atHl => .bit6AtHl
  | 6, .reg .a => .bit6A
  | 7, .reg .b => .bit7B
  | 7, .reg .c => .bit7C
  | 7, .reg .d => .bit7D
  | 7, .reg .e => .bit7E
  | 7, .reg .h => .bit7H
  | 7, .reg .l => .bit7L
  | 7, .atHl => .bit7AtHl
  | 7, .reg .a => .bit7A

/-- CB table, op2[7:6] = 10 (R90): `RES y,r[z]`. -/
def rowRes (y : Fin 8) (o : Opnd8) : Instr :=
  match y, o with
  | 0, .reg .b => .res0B
  | 0, .reg .c => .res0C
  | 0, .reg .d => .res0D
  | 0, .reg .e => .res0E
  | 0, .reg .h => .res0H
  | 0, .reg .l => .res0L
  | 0, .atHl => .res0AtHl
  | 0, .reg .a => .res0A
  | 1, .reg .b => .res1B
  | 1, .reg .c => .res1C
  | 1, .reg .d => .res1D
  | 1, .reg .e => .res1E
  | 1, .reg .h => .res1H
  | 1, .reg .l => .res1L
  | 1, .atHl => .res1AtHl
  | 1, .reg .a => .res1A
  | 2, .reg .b => .res2B
  | 2, .reg .c => .res2C
  | 2, .reg .d => .res2D
  | 2, .reg .e => .res2E
  | 2, .reg .h => .res2H
  | 2, .reg .l => .res2L
  | 2, .atHl => .res2AtHl
  | 2, .reg .a => .res2A
  | 3, .reg .b => .res3B
  | 3, .reg .c => .res3C
  | 3, .reg .d => .res3D
  | 3, .reg .e => .res3E
  | 3, .reg .h => .res3H
  | 3, .reg .l => .res3L
  | 3, .atHl => .res3AtHl
  | 3, .reg .a => .res3A
  | 4, .reg .b => .res4B
  | 4, .reg .c => .res4C
  | 4, .reg .d => .res4D
  | 4, .reg .e => .res4E
  | 4, .reg .h => .res4H
  | 4, .reg .l => .res4L
  | 4, .atHl => .res4AtHl
  | 4, .reg .a => .res4A
  | 5, .reg .b => .res5B
  | 5, .reg .c => .res5C
  | 5, .reg .d => .res5D
  | 5, .reg .e => .res5E
  | 5, .reg .h => .res5H
  | 5, .reg .l => .res5L
  | 5, .atHl => .res5AtHl
  | 5, .reg .a => .res5A
  | 6, .reg .b => .res6B
  | 6, .reg .c => .res6C
  | 6, .reg .d => .res6D
  | 6, .reg .e => .res6E
  | 6, .reg .h => .res6H
  | 6, .reg .l => .res6L
  | 6, .atHl => .res6AtHl
  | 6, .reg .a => .res6A
  | 7, .reg .b => .res7B
  | 7, .reg .c => .res7C
  | 7, .reg .d => .res7D
  | 7, .reg .e => .res7E
  | 7, .reg .h => .res7H
  | 7, .reg .l => .res7L
  | 7, .atHl => .res7AtHl
  | 7, .reg .a => .res7A

/-- CB table, op2[7:6] = 11 (R90): `SET y,r[z]`. -/
def rowSet (y : Fin 8) (o : Opnd8) : Instr :=
  match y, o with
  | 0, .reg .b => .set0B
  | 0, .reg .c => .set0C
  | 0, .reg .d => .set0D
  | 0, .reg .e => .set0E
  | 0, .reg .h => .set0H
  | 0, .reg .l => .set0L
  | 0, .atHl => .set0AtHl
  | 0, .reg .a => .set0A
  | 1, .reg .b => .set1B
  | 1, .reg .c => .set1C
  | 1, .reg .d => .set1D
  | 1, .reg .e => .set1E
  | 1, .reg .h => .set1H
  | 1, .reg .l => .set1L
  | 1, .atHl => .set1AtHl
  | 1, .reg .a => .set1A
  | 2, .reg .b => .set2B
  | 2, .reg .c => .set2C
  | 2, .reg .d => .set2D
  | 2, .reg .e => .set2E
  | 2, .reg .h => .set2H
  | 2, .reg .l => .set2L
  | 2, .atHl => .set2AtHl
  | 2, .reg .a => .set2A
  | 3, .reg .b => .set3B
  | 3, .reg .c => .set3C
  | 3, .reg .d => .set3D
  | 3, .reg .e => .set3E
  | 3, .reg .h => .set3H
  | 3, .reg .l => .set3L
  | 3, .atHl => .set3AtHl
  | 3, .reg .a => .set3A
  | 4, .reg .b => .set4B
  | 4, .reg .c => .set4C
  | 4, .reg .d => .set4D
  | 4, .reg .e => .set4E
  | 4, .reg .h => .set4H
  | 4, .reg .l => .set4L
  | 4, .atHl => .set4AtHl
  | 4, .reg .a => .set4A
  | 5, .reg .b => .set5B
  | 5, .reg .c => .set5C
  | 5, .reg .d => .set5D
  | 5, .reg .e => .set5E
  | 5, .reg .h => .set5H
  | 5, .reg .l => .set5L
  | 5, .atHl => .set5AtHl
  | 5, .reg .a => .set5A
  | 6, .reg .b => .set6B
  | 6, .reg .c => .set6C
  | 6, .reg .d => .set6D
  | 6, .reg .e => .set6E
  | 6, .reg .h => .set6H
  | 6, .reg .l => .set6L
  | 6, .atHl => .set6AtHl
  | 6, .reg .a => .set6A
  | 7, .reg .b => .set7B
  | 7, .reg .c => .set7C
  | 7, .reg .d => .set7D
  | 7, .reg .e => .set7E
  | 7, .reg .h => .set7H
  | 7, .reg .l => .set7L
  | 7, .atHl => .set7AtHl
  | 7, .reg .a => .set7A

/-! ### The dispatch ROM (R87) -/

/-- A descriptor of the primary table (R87), as far as decoding needs it: the row and the immediate it
takes. The descriptor of slot 0xCB is the marker of the second table (R86). -/
inductive Descriptor where
  /-- A row without an immediate (format F1), the unimplemented slots among them (R89). -/
  | plain (i : Instr)
  /-- A row with one immediate byte (format F2, R72, R75). -/
  | imm8 (f : Byte → Instr)
  /-- A row with a 16-bit little-endian immediate (format F3, R73). -/
  | imm16 (f : Word → Instr)
  /-- Slot 0xCB: fetch a second byte and index the CB table (R86). -/
  | marker

/-- Row 0 of R88: op[7:4] = 0x0. -/
def primaryRow0 : List Descriptor :=
  [ .plain .nop, .imm16 .ldBcD16, .plain .ldAtBcA, .plain .incBc,
    .plain .incB, .plain .decB, .imm8 .ldBD8, .plain .rlca,
    .imm16 .ldAtA16Sp, .plain .addHlBc, .plain .ldAAtBc, .plain .decBc,
    .plain .incC, .plain .decC, .imm8 .ldCD8, .plain .rrca ]

/-- Row 1 of R88: op[7:4] = 0x1. -/
def primaryRow1 : List Descriptor :=
  [ .imm8 .stop, .imm16 .ldDeD16, .plain .ldAtDeA, .plain .incDe,
    .plain .incD, .plain .decD, .imm8 .ldDD8, .plain .rla,
    .imm8 .jrE8, .plain .addHlDe, .plain .ldAAtDe, .plain .decDe,
    .plain .incE, .plain .decE, .imm8 .ldED8, .plain .rra ]

/-- Row 2 of R88: op[7:4] = 0x2. -/
def primaryRow2 : List Descriptor :=
  [ .imm8 .jrNzE8, .imm16 .ldHlD16, .plain .ldAtHlIncA, .plain .incHl,
    .plain .incH, .plain .decH, .imm8 .ldHD8, .plain .daa,
    .imm8 .jrZE8, .plain .addHlHl, .plain .ldAAtHlInc, .plain .decHl,
    .plain .incL, .plain .decL, .imm8 .ldLD8, .plain .cpl ]

/-- Row 3 of R88: op[7:4] = 0x3. -/
def primaryRow3 : List Descriptor :=
  [ .imm8 .jrNcE8, .imm16 .ldSpD16, .plain .ldAtHlDecA, .plain .incSp,
    .plain .incAtHl, .plain .decAtHl, .imm8 .ldAtHlD8, .plain .scf,
    .imm8 .jrCE8, .plain .addHlSp, .plain .ldAAtHlDec, .plain .decSp,
    .plain .incA, .plain .decA, .imm8 .ldAD8, .plain .ccf ]

/-- Row 4 of R88: op[7:4] = 0x4. -/
def primaryRow4 : List Descriptor :=
  [ .plain .ldBB, .plain .ldBC, .plain .ldBD, .plain .ldBE,
    .plain .ldBH, .plain .ldBL, .plain .ldBAtHl, .plain .ldBA,
    .plain .ldCB, .plain .ldCC, .plain .ldCD, .plain .ldCE,
    .plain .ldCH, .plain .ldCL, .plain .ldCAtHl, .plain .ldCA ]

/-- Row 5 of R88: op[7:4] = 0x5. -/
def primaryRow5 : List Descriptor :=
  [ .plain .ldDB, .plain .ldDC, .plain .ldDD, .plain .ldDE,
    .plain .ldDH, .plain .ldDL, .plain .ldDAtHl, .plain .ldDA,
    .plain .ldEB, .plain .ldEC, .plain .ldED, .plain .ldEE,
    .plain .ldEH, .plain .ldEL, .plain .ldEAtHl, .plain .ldEA ]

/-- Row 6 of R88: op[7:4] = 0x6. -/
def primaryRow6 : List Descriptor :=
  [ .plain .ldHB, .plain .ldHC, .plain .ldHD, .plain .ldHE,
    .plain .ldHH, .plain .ldHL, .plain .ldHAtHl, .plain .ldHA,
    .plain .ldLB, .plain .ldLC, .plain .ldLD, .plain .ldLE,
    .plain .ldLH, .plain .ldLL, .plain .ldLAtHl, .plain .ldLA ]

/-- Row 7 of R88: op[7:4] = 0x7. -/
def primaryRow7 : List Descriptor :=
  [ .plain .ldAtHlB, .plain .ldAtHlC, .plain .ldAtHlD, .plain .ldAtHlE,
    .plain .ldAtHlH, .plain .ldAtHlL, .plain .halt, .plain .ldAtHlA,
    .plain .ldAB, .plain .ldAC, .plain .ldAD, .plain .ldAE,
    .plain .ldAH, .plain .ldAL, .plain .ldAAtHl, .plain .ldAA ]

/-- Row 8 of R88: op[7:4] = 0x8. -/
def primaryRow8 : List Descriptor :=
  [ .plain .addAB, .plain .addAC, .plain .addAD, .plain .addAE,
    .plain .addAH, .plain .addAL, .plain .addAAtHl, .plain .addAA,
    .plain .adcAB, .plain .adcAC, .plain .adcAD, .plain .adcAE,
    .plain .adcAH, .plain .adcAL, .plain .adcAAtHl, .plain .adcAA ]

/-- Row 9 of R88: op[7:4] = 0x9. -/
def primaryRow9 : List Descriptor :=
  [ .plain .subAB, .plain .subAC, .plain .subAD, .plain .subAE,
    .plain .subAH, .plain .subAL, .plain .subAAtHl, .plain .subAA,
    .plain .sbcAB, .plain .sbcAC, .plain .sbcAD, .plain .sbcAE,
    .plain .sbcAH, .plain .sbcAL, .plain .sbcAAtHl, .plain .sbcAA ]

/-- Row A of R88: op[7:4] = 0xA. -/
def primaryRowA : List Descriptor :=
  [ .plain .andAB, .plain .andAC, .plain .andAD, .plain .andAE,
    .plain .andAH, .plain .andAL, .plain .andAAtHl, .plain .andAA,
    .plain .xorAB, .plain .xorAC, .plain .xorAD, .plain .xorAE,
    .plain .xorAH, .plain .xorAL, .plain .xorAAtHl, .plain .xorAA ]

/-- Row B of R88: op[7:4] = 0xB. -/
def primaryRowB : List Descriptor :=
  [ .plain .orAB, .plain .orAC, .plain .orAD, .plain .orAE,
    .plain .orAH, .plain .orAL, .plain .orAAtHl, .plain .orAA,
    .plain .cpAB, .plain .cpAC, .plain .cpAD, .plain .cpAE,
    .plain .cpAH, .plain .cpAL, .plain .cpAAtHl, .plain .cpAA ]

/-- Row C of R88: op[7:4] = 0xC. -/
def primaryRowC : List Descriptor :=
  [ .plain .retNz, .plain .popBc, .imm16 .jpNzA16, .imm16 .jpA16,
    .imm16 .callNzA16, .plain .pushBc, .imm8 .addAD8, .plain .rst00,
    .plain .retZ, .plain .ret, .imm16 .jpZA16, .marker,
    .imm16 .callZA16, .imm16 .callA16, .imm8 .adcAD8, .plain .rst08 ]

/-- Row D of R88: op[7:4] = 0xD. -/
def primaryRowD : List Descriptor :=
  [ .plain .retNc, .plain .popDe, .imm16 .jpNcA16, .plain .unimplementedD3,
    .imm16 .callNcA16, .plain .pushDe, .imm8 .subAD8, .plain .rst10,
    .plain .retC, .plain .reti, .imm16 .jpCA16, .plain .unimplementedDB,
    .imm16 .callCA16, .plain .unimplementedDD, .imm8 .sbcAD8, .plain .rst18 ]

/-- Row E of R88: op[7:4] = 0xE. -/
def primaryRowE : List Descriptor :=
  [ .imm8 .ldhAtA8A, .plain .popHl, .plain .ldAtCA, .plain .unimplementedE3,
    .plain .unimplementedE4, .plain .pushHl, .imm8 .andAD8, .plain .rst20,
    .imm8 .addSpE8, .plain .jpHl, .imm16 .ldAtA16A, .plain .unimplementedEB,
    .plain .unimplementedEC, .plain .unimplementedED, .imm8 .xorAD8, .plain .rst28 ]

/-- Row F of R88: op[7:4] = 0xF. -/
def primaryRowF : List Descriptor :=
  [ .imm8 .ldhAAtA8, .plain .popAf, .plain .ldAAtC, .plain .di,
    .plain .unimplementedF4, .plain .pushAf, .imm8 .orAD8, .plain .rst30,
    .imm8 .ldHlSpE8, .plain .ldSpHl, .imm16 .ldAAtA16, .plain .ei,
    .plain .unimplementedFC, .plain .unimplementedFD, .imm8 .cpAD8, .plain .rst38 ]

/-- PRIMARY_TABLE (R88): the 256 descriptors, rows op[7:4] in order, columns op[3:0]. -/
def primaryTable : List Descriptor :=
  primaryRow0 ++ primaryRow1 ++ primaryRow2 ++ primaryRow3 ++
  primaryRow4 ++ primaryRow5 ++ primaryRow6 ++ primaryRow7 ++
  primaryRow8 ++ primaryRow9 ++ primaryRowA ++ primaryRowB ++
  primaryRowC ++ primaryRowD ++ primaryRowE ++ primaryRowF

/-- The primary table has 256 entries (R87). -/
theorem primaryTable_length : primaryTable.length = 256 := by
  simp only [primaryTable, List.length_append]
  rfl

/-- The descriptor of a first opcode byte: PRIMARY_TABLE[op] (R82). -/
def primaryLookup (op : Byte) : Descriptor :=
  primaryTable[op.toNat]'(primaryTable_length ▸ op.isLt)

/-- The bit index or operation code y as an index into 0..7. -/
def indexY (op2 : Byte) : Fin 8 := Fin.ofNat 8 (fieldY op2)

/-- The row of a second opcode byte: CB_TABLE[op2] (R82), by the fields R90 gives. -/
def cbLookup (op2 : Byte) : Instr :=
  match fieldX op2 with
  | 0 => rowShift (shiftOfCode (fieldY op2)) (opndOfCode (fieldZ op2))
  | 1 => rowBit (indexY op2) (opndOfCode (fieldZ op2))
  | 2 => rowRes (indexY op2) (opndOfCode (fieldZ op2))
  | _ => rowSet (indexY op2) (opndOfCode (fieldZ op2))

/-- The opcode bytes of a slot (R260): the byte itself, or 0xCB and op2. -/
def slotBytes (slot : Slot) : List Byte :=
  match slot with
  | .primary op => [op]
  | .cb op2 => [0xCB, op2]

/-! ### The decoder (R86, R91) -/

/-- What the decoder reads: the instruction, the slot it was looked up in, its length in bytes. -/
structure Decoded where
  instr : Instr
  slot : Slot
  len : Nat
  deriving DecidableEq, Repr

/-- Why a list of bytes does not decode: it ends too early. Memory never does (R91). -/
inductive DecodeReject where
  /-- There is no byte at all. -/
  | noByte
  /-- The bytes end inside the instruction that begins with `op`. -/
  | truncated (op : Byte)
  deriving DecidableEq, Repr

/-- What the decoder answers. -/
inductive DecodeResult where
  | ok (d : Decoded)
  | rejected (why : DecodeReject)
  deriving DecidableEq, Repr

/-- Decodes the instruction at the head of `bytes` (R82 to R86): the first byte indexes the primary
table; after 0xCB the second byte indexes the CB table; then the immediate bytes follow, a 16-bit one
low byte first (R73). -/
def decode (bytes : List Byte) : DecodeResult :=
  match bytes with
  | [] => .rejected .noByte
  | op :: rest =>
    match primaryLookup op, rest with
    | .plain i, _ => .ok { instr := i, slot := .primary op, len := 1 }
    | .imm8 f, n :: _ => .ok { instr := f n, slot := .primary op, len := 2 }
    | .imm16 f, lo :: hi :: _ => .ok { instr := f (wordOf hi lo), slot := .primary op, len := 3 }
    | .marker, op2 :: _ => .ok { instr := cbLookup op2, slot := .cb op2, len := 2 }
    | _, _ => .rejected (.truncated op)

/-! ### The encoder -/

/-- The bytes of an instruction, in the order they stand in memory (R70): the opcode byte or bytes of
its row of spec/opcode_table.json, then its immediate, a 16-bit one low byte first (R73). -/
def encode (i : Instr) : List Byte :=
  match i with
  | .nop => [0x00]
  | .ldBcD16 nn => [0x01, loByte nn, hiByte nn]
  | .ldAtBcA => [0x02]
  | .incBc => [0x03]
  | .incB => [0x04]
  | .decB => [0x05]
  | .ldBD8 n => [0x06, n]
  | .rlca => [0x07]
  | .ldAtA16Sp nn => [0x08, loByte nn, hiByte nn]
  | .addHlBc => [0x09]
  | .ldAAtBc => [0x0A]
  | .decBc => [0x0B]
  | .incC => [0x0C]
  | .decC => [0x0D]
  | .ldCD8 n => [0x0E, n]
  | .rrca => [0x0F]
  | .stop n => [0x10, n]
  | .ldDeD16 nn => [0x11, loByte nn, hiByte nn]
  | .ldAtDeA => [0x12]
  | .incDe => [0x13]
  | .incD => [0x14]
  | .decD => [0x15]
  | .ldDD8 n => [0x16, n]
  | .rla => [0x17]
  | .jrE8 n => [0x18, n]
  | .addHlDe => [0x19]
  | .ldAAtDe => [0x1A]
  | .decDe => [0x1B]
  | .incE => [0x1C]
  | .decE => [0x1D]
  | .ldED8 n => [0x1E, n]
  | .rra => [0x1F]
  | .jrNzE8 n => [0x20, n]
  | .ldHlD16 nn => [0x21, loByte nn, hiByte nn]
  | .ldAtHlIncA => [0x22]
  | .incHl => [0x23]
  | .incH => [0x24]
  | .decH => [0x25]
  | .ldHD8 n => [0x26, n]
  | .daa => [0x27]
  | .jrZE8 n => [0x28, n]
  | .addHlHl => [0x29]
  | .ldAAtHlInc => [0x2A]
  | .decHl => [0x2B]
  | .incL => [0x2C]
  | .decL => [0x2D]
  | .ldLD8 n => [0x2E, n]
  | .cpl => [0x2F]
  | .jrNcE8 n => [0x30, n]
  | .ldSpD16 nn => [0x31, loByte nn, hiByte nn]
  | .ldAtHlDecA => [0x32]
  | .incSp => [0x33]
  | .incAtHl => [0x34]
  | .decAtHl => [0x35]
  | .ldAtHlD8 n => [0x36, n]
  | .scf => [0x37]
  | .jrCE8 n => [0x38, n]
  | .addHlSp => [0x39]
  | .ldAAtHlDec => [0x3A]
  | .decSp => [0x3B]
  | .incA => [0x3C]
  | .decA => [0x3D]
  | .ldAD8 n => [0x3E, n]
  | .ccf => [0x3F]
  | .ldBB => [0x40]
  | .ldBC => [0x41]
  | .ldBD => [0x42]
  | .ldBE => [0x43]
  | .ldBH => [0x44]
  | .ldBL => [0x45]
  | .ldBAtHl => [0x46]
  | .ldBA => [0x47]
  | .ldCB => [0x48]
  | .ldCC => [0x49]
  | .ldCD => [0x4A]
  | .ldCE => [0x4B]
  | .ldCH => [0x4C]
  | .ldCL => [0x4D]
  | .ldCAtHl => [0x4E]
  | .ldCA => [0x4F]
  | .ldDB => [0x50]
  | .ldDC => [0x51]
  | .ldDD => [0x52]
  | .ldDE => [0x53]
  | .ldDH => [0x54]
  | .ldDL => [0x55]
  | .ldDAtHl => [0x56]
  | .ldDA => [0x57]
  | .ldEB => [0x58]
  | .ldEC => [0x59]
  | .ldED => [0x5A]
  | .ldEE => [0x5B]
  | .ldEH => [0x5C]
  | .ldEL => [0x5D]
  | .ldEAtHl => [0x5E]
  | .ldEA => [0x5F]
  | .ldHB => [0x60]
  | .ldHC => [0x61]
  | .ldHD => [0x62]
  | .ldHE => [0x63]
  | .ldHH => [0x64]
  | .ldHL => [0x65]
  | .ldHAtHl => [0x66]
  | .ldHA => [0x67]
  | .ldLB => [0x68]
  | .ldLC => [0x69]
  | .ldLD => [0x6A]
  | .ldLE => [0x6B]
  | .ldLH => [0x6C]
  | .ldLL => [0x6D]
  | .ldLAtHl => [0x6E]
  | .ldLA => [0x6F]
  | .ldAtHlB => [0x70]
  | .ldAtHlC => [0x71]
  | .ldAtHlD => [0x72]
  | .ldAtHlE => [0x73]
  | .ldAtHlH => [0x74]
  | .ldAtHlL => [0x75]
  | .halt => [0x76]
  | .ldAtHlA => [0x77]
  | .ldAB => [0x78]
  | .ldAC => [0x79]
  | .ldAD => [0x7A]
  | .ldAE => [0x7B]
  | .ldAH => [0x7C]
  | .ldAL => [0x7D]
  | .ldAAtHl => [0x7E]
  | .ldAA => [0x7F]
  | .addAB => [0x80]
  | .addAC => [0x81]
  | .addAD => [0x82]
  | .addAE => [0x83]
  | .addAH => [0x84]
  | .addAL => [0x85]
  | .addAAtHl => [0x86]
  | .addAA => [0x87]
  | .adcAB => [0x88]
  | .adcAC => [0x89]
  | .adcAD => [0x8A]
  | .adcAE => [0x8B]
  | .adcAH => [0x8C]
  | .adcAL => [0x8D]
  | .adcAAtHl => [0x8E]
  | .adcAA => [0x8F]
  | .subAB => [0x90]
  | .subAC => [0x91]
  | .subAD => [0x92]
  | .subAE => [0x93]
  | .subAH => [0x94]
  | .subAL => [0x95]
  | .subAAtHl => [0x96]
  | .subAA => [0x97]
  | .sbcAB => [0x98]
  | .sbcAC => [0x99]
  | .sbcAD => [0x9A]
  | .sbcAE => [0x9B]
  | .sbcAH => [0x9C]
  | .sbcAL => [0x9D]
  | .sbcAAtHl => [0x9E]
  | .sbcAA => [0x9F]
  | .andAB => [0xA0]
  | .andAC => [0xA1]
  | .andAD => [0xA2]
  | .andAE => [0xA3]
  | .andAH => [0xA4]
  | .andAL => [0xA5]
  | .andAAtHl => [0xA6]
  | .andAA => [0xA7]
  | .xorAB => [0xA8]
  | .xorAC => [0xA9]
  | .xorAD => [0xAA]
  | .xorAE => [0xAB]
  | .xorAH => [0xAC]
  | .xorAL => [0xAD]
  | .xorAAtHl => [0xAE]
  | .xorAA => [0xAF]
  | .orAB => [0xB0]
  | .orAC => [0xB1]
  | .orAD => [0xB2]
  | .orAE => [0xB3]
  | .orAH => [0xB4]
  | .orAL => [0xB5]
  | .orAAtHl => [0xB6]
  | .orAA => [0xB7]
  | .cpAB => [0xB8]
  | .cpAC => [0xB9]
  | .cpAD => [0xBA]
  | .cpAE => [0xBB]
  | .cpAH => [0xBC]
  | .cpAL => [0xBD]
  | .cpAAtHl => [0xBE]
  | .cpAA => [0xBF]
  | .retNz => [0xC0]
  | .popBc => [0xC1]
  | .jpNzA16 nn => [0xC2, loByte nn, hiByte nn]
  | .jpA16 nn => [0xC3, loByte nn, hiByte nn]
  | .callNzA16 nn => [0xC4, loByte nn, hiByte nn]
  | .pushBc => [0xC5]
  | .addAD8 n => [0xC6, n]
  | .rst00 => [0xC7]
  | .retZ => [0xC8]
  | .ret => [0xC9]
  | .jpZA16 nn => [0xCA, loByte nn, hiByte nn]
  | .prefixCb => [0xCB]
  | .callZA16 nn => [0xCC, loByte nn, hiByte nn]
  | .callA16 nn => [0xCD, loByte nn, hiByte nn]
  | .adcAD8 n => [0xCE, n]
  | .rst08 => [0xCF]
  | .retNc => [0xD0]
  | .popDe => [0xD1]
  | .jpNcA16 nn => [0xD2, loByte nn, hiByte nn]
  | .unimplementedD3 => [0xD3]
  | .callNcA16 nn => [0xD4, loByte nn, hiByte nn]
  | .pushDe => [0xD5]
  | .subAD8 n => [0xD6, n]
  | .rst10 => [0xD7]
  | .retC => [0xD8]
  | .reti => [0xD9]
  | .jpCA16 nn => [0xDA, loByte nn, hiByte nn]
  | .unimplementedDB => [0xDB]
  | .callCA16 nn => [0xDC, loByte nn, hiByte nn]
  | .unimplementedDD => [0xDD]
  | .sbcAD8 n => [0xDE, n]
  | .rst18 => [0xDF]
  | .ldhAtA8A n => [0xE0, n]
  | .popHl => [0xE1]
  | .ldAtCA => [0xE2]
  | .unimplementedE3 => [0xE3]
  | .unimplementedE4 => [0xE4]
  | .pushHl => [0xE5]
  | .andAD8 n => [0xE6, n]
  | .rst20 => [0xE7]
  | .addSpE8 n => [0xE8, n]
  | .jpHl => [0xE9]
  | .ldAtA16A nn => [0xEA, loByte nn, hiByte nn]
  | .unimplementedEB => [0xEB]
  | .unimplementedEC => [0xEC]
  | .unimplementedED => [0xED]
  | .xorAD8 n => [0xEE, n]
  | .rst28 => [0xEF]
  | .ldhAAtA8 n => [0xF0, n]
  | .popAf => [0xF1]
  | .ldAAtC => [0xF2]
  | .di => [0xF3]
  | .unimplementedF4 => [0xF4]
  | .pushAf => [0xF5]
  | .orAD8 n => [0xF6, n]
  | .rst30 => [0xF7]
  | .ldHlSpE8 n => [0xF8, n]
  | .ldSpHl => [0xF9]
  | .ldAAtA16 nn => [0xFA, loByte nn, hiByte nn]
  | .ei => [0xFB]
  | .unimplementedFC => [0xFC]
  | .unimplementedFD => [0xFD]
  | .cpAD8 n => [0xFE, n]
  | .rst38 => [0xFF]
  | .rlcB => [0xCB, 0x00]
  | .rlcC => [0xCB, 0x01]
  | .rlcD => [0xCB, 0x02]
  | .rlcE => [0xCB, 0x03]
  | .rlcH => [0xCB, 0x04]
  | .rlcL => [0xCB, 0x05]
  | .rlcAtHl => [0xCB, 0x06]
  | .rlcA => [0xCB, 0x07]
  | .rrcB => [0xCB, 0x08]
  | .rrcC => [0xCB, 0x09]
  | .rrcD => [0xCB, 0x0A]
  | .rrcE => [0xCB, 0x0B]
  | .rrcH => [0xCB, 0x0C]
  | .rrcL => [0xCB, 0x0D]
  | .rrcAtHl => [0xCB, 0x0E]
  | .rrcA => [0xCB, 0x0F]
  | .rlB => [0xCB, 0x10]
  | .rlC => [0xCB, 0x11]
  | .rlD => [0xCB, 0x12]
  | .rlE => [0xCB, 0x13]
  | .rlH => [0xCB, 0x14]
  | .rlL => [0xCB, 0x15]
  | .rlAtHl => [0xCB, 0x16]
  | .rlA => [0xCB, 0x17]
  | .rrB => [0xCB, 0x18]
  | .rrC => [0xCB, 0x19]
  | .rrD => [0xCB, 0x1A]
  | .rrE => [0xCB, 0x1B]
  | .rrH => [0xCB, 0x1C]
  | .rrL => [0xCB, 0x1D]
  | .rrAtHl => [0xCB, 0x1E]
  | .rrA => [0xCB, 0x1F]
  | .slaB => [0xCB, 0x20]
  | .slaC => [0xCB, 0x21]
  | .slaD => [0xCB, 0x22]
  | .slaE => [0xCB, 0x23]
  | .slaH => [0xCB, 0x24]
  | .slaL => [0xCB, 0x25]
  | .slaAtHl => [0xCB, 0x26]
  | .slaA => [0xCB, 0x27]
  | .sraB => [0xCB, 0x28]
  | .sraC => [0xCB, 0x29]
  | .sraD => [0xCB, 0x2A]
  | .sraE => [0xCB, 0x2B]
  | .sraH => [0xCB, 0x2C]
  | .sraL => [0xCB, 0x2D]
  | .sraAtHl => [0xCB, 0x2E]
  | .sraA => [0xCB, 0x2F]
  | .swapB => [0xCB, 0x30]
  | .swapC => [0xCB, 0x31]
  | .swapD => [0xCB, 0x32]
  | .swapE => [0xCB, 0x33]
  | .swapH => [0xCB, 0x34]
  | .swapL => [0xCB, 0x35]
  | .swapAtHl => [0xCB, 0x36]
  | .swapA => [0xCB, 0x37]
  | .srlB => [0xCB, 0x38]
  | .srlC => [0xCB, 0x39]
  | .srlD => [0xCB, 0x3A]
  | .srlE => [0xCB, 0x3B]
  | .srlH => [0xCB, 0x3C]
  | .srlL => [0xCB, 0x3D]
  | .srlAtHl => [0xCB, 0x3E]
  | .srlA => [0xCB, 0x3F]
  | .bit0B => [0xCB, 0x40]
  | .bit0C => [0xCB, 0x41]
  | .bit0D => [0xCB, 0x42]
  | .bit0E => [0xCB, 0x43]
  | .bit0H => [0xCB, 0x44]
  | .bit0L => [0xCB, 0x45]
  | .bit0AtHl => [0xCB, 0x46]
  | .bit0A => [0xCB, 0x47]
  | .bit1B => [0xCB, 0x48]
  | .bit1C => [0xCB, 0x49]
  | .bit1D => [0xCB, 0x4A]
  | .bit1E => [0xCB, 0x4B]
  | .bit1H => [0xCB, 0x4C]
  | .bit1L => [0xCB, 0x4D]
  | .bit1AtHl => [0xCB, 0x4E]
  | .bit1A => [0xCB, 0x4F]
  | .bit2B => [0xCB, 0x50]
  | .bit2C => [0xCB, 0x51]
  | .bit2D => [0xCB, 0x52]
  | .bit2E => [0xCB, 0x53]
  | .bit2H => [0xCB, 0x54]
  | .bit2L => [0xCB, 0x55]
  | .bit2AtHl => [0xCB, 0x56]
  | .bit2A => [0xCB, 0x57]
  | .bit3B => [0xCB, 0x58]
  | .bit3C => [0xCB, 0x59]
  | .bit3D => [0xCB, 0x5A]
  | .bit3E => [0xCB, 0x5B]
  | .bit3H => [0xCB, 0x5C]
  | .bit3L => [0xCB, 0x5D]
  | .bit3AtHl => [0xCB, 0x5E]
  | .bit3A => [0xCB, 0x5F]
  | .bit4B => [0xCB, 0x60]
  | .bit4C => [0xCB, 0x61]
  | .bit4D => [0xCB, 0x62]
  | .bit4E => [0xCB, 0x63]
  | .bit4H => [0xCB, 0x64]
  | .bit4L => [0xCB, 0x65]
  | .bit4AtHl => [0xCB, 0x66]
  | .bit4A => [0xCB, 0x67]
  | .bit5B => [0xCB, 0x68]
  | .bit5C => [0xCB, 0x69]
  | .bit5D => [0xCB, 0x6A]
  | .bit5E => [0xCB, 0x6B]
  | .bit5H => [0xCB, 0x6C]
  | .bit5L => [0xCB, 0x6D]
  | .bit5AtHl => [0xCB, 0x6E]
  | .bit5A => [0xCB, 0x6F]
  | .bit6B => [0xCB, 0x70]
  | .bit6C => [0xCB, 0x71]
  | .bit6D => [0xCB, 0x72]
  | .bit6E => [0xCB, 0x73]
  | .bit6H => [0xCB, 0x74]
  | .bit6L => [0xCB, 0x75]
  | .bit6AtHl => [0xCB, 0x76]
  | .bit6A => [0xCB, 0x77]
  | .bit7B => [0xCB, 0x78]
  | .bit7C => [0xCB, 0x79]
  | .bit7D => [0xCB, 0x7A]
  | .bit7E => [0xCB, 0x7B]
  | .bit7H => [0xCB, 0x7C]
  | .bit7L => [0xCB, 0x7D]
  | .bit7AtHl => [0xCB, 0x7E]
  | .bit7A => [0xCB, 0x7F]
  | .res0B => [0xCB, 0x80]
  | .res0C => [0xCB, 0x81]
  | .res0D => [0xCB, 0x82]
  | .res0E => [0xCB, 0x83]
  | .res0H => [0xCB, 0x84]
  | .res0L => [0xCB, 0x85]
  | .res0AtHl => [0xCB, 0x86]
  | .res0A => [0xCB, 0x87]
  | .res1B => [0xCB, 0x88]
  | .res1C => [0xCB, 0x89]
  | .res1D => [0xCB, 0x8A]
  | .res1E => [0xCB, 0x8B]
  | .res1H => [0xCB, 0x8C]
  | .res1L => [0xCB, 0x8D]
  | .res1AtHl => [0xCB, 0x8E]
  | .res1A => [0xCB, 0x8F]
  | .res2B => [0xCB, 0x90]
  | .res2C => [0xCB, 0x91]
  | .res2D => [0xCB, 0x92]
  | .res2E => [0xCB, 0x93]
  | .res2H => [0xCB, 0x94]
  | .res2L => [0xCB, 0x95]
  | .res2AtHl => [0xCB, 0x96]
  | .res2A => [0xCB, 0x97]
  | .res3B => [0xCB, 0x98]
  | .res3C => [0xCB, 0x99]
  | .res3D => [0xCB, 0x9A]
  | .res3E => [0xCB, 0x9B]
  | .res3H => [0xCB, 0x9C]
  | .res3L => [0xCB, 0x9D]
  | .res3AtHl => [0xCB, 0x9E]
  | .res3A => [0xCB, 0x9F]
  | .res4B => [0xCB, 0xA0]
  | .res4C => [0xCB, 0xA1]
  | .res4D => [0xCB, 0xA2]
  | .res4E => [0xCB, 0xA3]
  | .res4H => [0xCB, 0xA4]
  | .res4L => [0xCB, 0xA5]
  | .res4AtHl => [0xCB, 0xA6]
  | .res4A => [0xCB, 0xA7]
  | .res5B => [0xCB, 0xA8]
  | .res5C => [0xCB, 0xA9]
  | .res5D => [0xCB, 0xAA]
  | .res5E => [0xCB, 0xAB]
  | .res5H => [0xCB, 0xAC]
  | .res5L => [0xCB, 0xAD]
  | .res5AtHl => [0xCB, 0xAE]
  | .res5A => [0xCB, 0xAF]
  | .res6B => [0xCB, 0xB0]
  | .res6C => [0xCB, 0xB1]
  | .res6D => [0xCB, 0xB2]
  | .res6E => [0xCB, 0xB3]
  | .res6H => [0xCB, 0xB4]
  | .res6L => [0xCB, 0xB5]
  | .res6AtHl => [0xCB, 0xB6]
  | .res6A => [0xCB, 0xB7]
  | .res7B => [0xCB, 0xB8]
  | .res7C => [0xCB, 0xB9]
  | .res7D => [0xCB, 0xBA]
  | .res7E => [0xCB, 0xBB]
  | .res7H => [0xCB, 0xBC]
  | .res7L => [0xCB, 0xBD]
  | .res7AtHl => [0xCB, 0xBE]
  | .res7A => [0xCB, 0xBF]
  | .set0B => [0xCB, 0xC0]
  | .set0C => [0xCB, 0xC1]
  | .set0D => [0xCB, 0xC2]
  | .set0E => [0xCB, 0xC3]
  | .set0H => [0xCB, 0xC4]
  | .set0L => [0xCB, 0xC5]
  | .set0AtHl => [0xCB, 0xC6]
  | .set0A => [0xCB, 0xC7]
  | .set1B => [0xCB, 0xC8]
  | .set1C => [0xCB, 0xC9]
  | .set1D => [0xCB, 0xCA]
  | .set1E => [0xCB, 0xCB]
  | .set1H => [0xCB, 0xCC]
  | .set1L => [0xCB, 0xCD]
  | .set1AtHl => [0xCB, 0xCE]
  | .set1A => [0xCB, 0xCF]
  | .set2B => [0xCB, 0xD0]
  | .set2C => [0xCB, 0xD1]
  | .set2D => [0xCB, 0xD2]
  | .set2E => [0xCB, 0xD3]
  | .set2H => [0xCB, 0xD4]
  | .set2L => [0xCB, 0xD5]
  | .set2AtHl => [0xCB, 0xD6]
  | .set2A => [0xCB, 0xD7]
  | .set3B => [0xCB, 0xD8]
  | .set3C => [0xCB, 0xD9]
  | .set3D => [0xCB, 0xDA]
  | .set3E => [0xCB, 0xDB]
  | .set3H => [0xCB, 0xDC]
  | .set3L => [0xCB, 0xDD]
  | .set3AtHl => [0xCB, 0xDE]
  | .set3A => [0xCB, 0xDF]
  | .set4B => [0xCB, 0xE0]
  | .set4C => [0xCB, 0xE1]
  | .set4D => [0xCB, 0xE2]
  | .set4E => [0xCB, 0xE3]
  | .set4H => [0xCB, 0xE4]
  | .set4L => [0xCB, 0xE5]
  | .set4AtHl => [0xCB, 0xE6]
  | .set4A => [0xCB, 0xE7]
  | .set5B => [0xCB, 0xE8]
  | .set5C => [0xCB, 0xE9]
  | .set5D => [0xCB, 0xEA]
  | .set5E => [0xCB, 0xEB]
  | .set5H => [0xCB, 0xEC]
  | .set5L => [0xCB, 0xED]
  | .set5AtHl => [0xCB, 0xEE]
  | .set5A => [0xCB, 0xEF]
  | .set6B => [0xCB, 0xF0]
  | .set6C => [0xCB, 0xF1]
  | .set6D => [0xCB, 0xF2]
  | .set6E => [0xCB, 0xF3]
  | .set6H => [0xCB, 0xF4]
  | .set6L => [0xCB, 0xF5]
  | .set6AtHl => [0xCB, 0xF6]
  | .set6A => [0xCB, 0xF7]
  | .set7B => [0xCB, 0xF8]
  | .set7C => [0xCB, 0xF9]
  | .set7D => [0xCB, 0xFA]
  | .set7E => [0xCB, 0xFB]
  | .set7H => [0xCB, 0xFC]
  | .set7L => [0xCB, 0xFD]
  | .set7AtHl => [0xCB, 0xFE]
  | .set7A => [0xCB, 0xFF]

/-! ### Words numbered as spec/opcode_table.json numbers them -/

/-- The `count` bytes of a number as the table writes them, most significant first: the table's 16-bit
rows are FCB rows whose "match" 0xCBxx has the FIRST byte, 0xCB, in bits 15..8 (R70: layout `0xCB op2`;
log entry 7). -/
def tableBytes (count w : Nat) : List Byte :=
  match count with
  | 0 => []
  | k + 1 => BitVec.ofNat 8 (w / 256 ^ k) :: tableBytes k w

/-- The three bytes of a row's word: its own bytes, then zeros up to the longest instruction. -/
def tableWindow (nbits w : Nat) : List Byte :=
  (tableBytes ((nbits + 7) / 8) w ++ [0x00, 0x00, 0x00]).take 3

/-- The instruction the decoder reads from a row's word of `nbits` bits, every byte after it zero. -/
def decodeTableWord (nbits w : Nat) : Option Instr :=
  match decode (tableWindow nbits w) with
  | .ok d => some d.instr
  | .rejected _ => none

end Sys2Proof
end

