-- ==== Sys2Proof/Machine/State.lean ====
section
/-! DEFINITION. The state of the core (spec/10_state.md), its fault record and its refusals, and the state
right after reset (R35, spec/70_reset_and_hazards.md R280). -/

namespace Sys2Proof.Machine

/-- The items of state an `UnwrittenRead` record can name (spec/70_reset_and_hazards.md R281). -/
inductive RegName where
  | a | b | c | d | e | h | l
  | zFlag | nFlag | hFlag | cFlag
  | sp
  deriving DecidableEq, Repr

/-- The records the status `fault` can hold (R31), which are also the reasons a step can stop with. -/
inductive Fault where
  /-- The hardware's one exception (spec/60_exceptions.md R260): an opcode without a descriptor.
  Recorded in `fault` by the 11 unimplemented rows and by the slots of `EXTRA_UNIMPLEMENTED`, as a next
  state (R262). Reported by `step` whenever `fault` already holds it (R263). Safe: the spec stops there. -/
  | unimplementedOpcode (bytes : List Byte) (pc : Word)
  /-- The model fault of R281, one of the three values of `fault` (R31). No step of this model records
  it, because every register holds a value at reset (log entry 2); a state that holds it stops as any
  faulted state does. Safe. -/
  | unwrittenRead (name : RegName)
  deriving DecidableEq, Repr

/-- Why the model gives a step no meaning. No step answers one. -/
inductive Refusal where
  /-- An instruction without a meaning, named by its mnemonic. Raised by no arm. Safe. -/
  | notModelled (mnemonic : String)
  /-- The fetched bytes do not decode. Raised by `step` only if three bytes could be too few, and they
  never are (R91; `Laws.fetchDecode_ok`). Safe. -/
  | undecodable (why : DecodeReject)
  deriving DecidableEq, Repr

/-- The four flags (R22). The byte F is a view of them (`State.flagByte`). -/
structure Flags where
  z : Bool
  n : Bool
  h : Bool
  c : Bool
  deriving DecidableEq, Repr

/-- Memory (R50): the listed bytes by address, strictly rising, none equal to what an unlisted address
reads as (`Memory.wf`). -/
abbrev Memory := List Host.Cell

/-- The state of the core. `config` holds the parameters of the build (R6); no step writes it. -/
structure State where
  a : Byte
  b : Byte
  c : Byte
  d : Byte
  e : Byte
  h : Byte
  l : Byte
  flags : Flags
  sp : Word
  pc : Word
  ime : Bool
  halted : Bool
  stopped : Bool
  fault : Option Fault
  mem : Memory
  config : Config
  deriving DecidableEq, Repr

/-- The state right after reset. R35 and R280 give PC, IME, the latches and `fault`. For A to L, the
flags and SP the spec gives no value: zero, DESIGN CHOICE, unsafe (log entry 2). No byte of memory is
listed (log entry 3). The parameters have their defaults (R6, log entry 4). -/
def State.reset : State where
  a := 0x00
  b := 0x00
  c := 0x00
  d := 0x00
  e := 0x00
  h := 0x00
  l := 0x00
  flags := { z := false, n := false, h := false, c := false }
  sp := 0x0000
  pc := 0x0000
  ime := false
  halted := false
  stopped := false
  fault := none
  mem := []
  config := Config.default

/-- What one instruction or one step answers. -/
abbrev Result := Host.Outcome State Fault Refusal

end Sys2Proof.Machine
end

