-- ==== Sys2Proof/Machine/Ops.lean ====
section
/-! DEFINITION. The named operations over memory and registers: the memory port (spec/20_memory.md R50 to
R56), the registers and pairs (spec/10_state.md R21 to R26), the stack primitives (spec/44_stack.md R180,
R181), the fetch of one byte (spec/30_encoding.md R83), and the one exception (spec/60_exceptions.md R262).
There is no return from it (R267). -/

namespace Sys2Proof.Machine

/-! ### Memory -/

/-- What a byte of memory reads as that nothing has written: 0x00. The spec has the host supply all
65,536 bytes (R281). DESIGN CHOICE, unsafe (log entry 3). -/
def Memory.unlisted : Byte := 0x00

/-- `MemRead(addr, 1)` on an address as a number (R51). -/
def Memory.readAt (m : Memory) (k : Nat) : Byte :=
  match m with
  | [] => Memory.unlisted
  | cell :: rest => if cell.1 = k then cell.2 else Memory.readAt rest k

/-- The memory without an entry for the address `k`. -/
def Memory.without (m : Memory) (k : Nat) : Memory :=
  match m with
  | [] => []
  | cell :: rest => if cell.1 = k then Memory.without rest k else cell :: Memory.without rest k

/-- The memory with an entry for `k` before the first higher address. -/
def Memory.put (m : Memory) (k : Nat) (v : Byte) : Memory :=
  match m with
  | [] => [(k, v)]
  | cell :: rest => if k < cell.1 then (k, v) :: cell :: rest else cell :: Memory.put rest k v

/-- `MemRead(addr, 1)` (R51): the byte at `addr`, without a side effect (R58). -/
def Memory.read (m : Memory) (addr : Word) : Byte := Memory.readAt m addr.toNat

/-- `MemWrite(addr, 1, v)` (R52), keeping the canonical form: writing the unlisted value removes the
entry. -/
def Memory.write (m : Memory) (addr : Word) (v : Byte) : Memory :=
  if v = Memory.unlisted then Memory.without m addr.toNat
  else Memory.put (Memory.without m addr.toNat) addr.toNat v

/-- The canonical form from the address `low` on: addresses strictly rise, lie in the address space
(R50), and no listed byte equals the unlisted value. -/
def Memory.wfFrom (low : Nat) (m : Memory) : Bool :=
  match m with
  | [] => true
  | cell :: rest =>
    decide (low ≤ cell.1) && decide (cell.1 < 65536) && decide (cell.2 ≠ Memory.unlisted) &&
      Memory.wfFrom (cell.1 + 1) rest

/-- The canonical form of memory. -/
def Memory.wf (m : Memory) : Bool := Memory.wfFrom 0 m

/-- `MemRead(addr, 1)` in a state (R51). -/
def State.load (s : State) (addr : Word) : Byte := s.mem.read addr

/-- `MemWrite(addr, 1, v)` in a state (R52). -/
def State.store (s : State) (addr : Word) (v : Byte) : State := { s with mem := s.mem.write addr v }

/-- `MemWrite(addr, 2, v)` (R55): the low byte at `addr`, the high byte at `addr + 1` mod 65536. -/
def State.store16 (s : State) (addr : Word) (v : Word) : State :=
  (s.store addr (loByte v)).store (addr + 1) (hiByte v)

/-! ### Registers, F and pairs -/

/-- `r8[r]` (R9, R20). -/
def State.reg8 (s : State) (r : Reg8) : Byte :=
  match r with
  | .b => s.b
  | .c => s.c
  | .d => s.d
  | .e => s.e
  | .h => s.h
  | .l => s.l
  | .a => s.a

/-- `r8[r] <- v` (R9, R21): never rejected, nothing hardwired. -/
def State.setReg8 (s : State) (r : Reg8) (v : Byte) : State :=
  match r with
  | .b => { s with b := v }
  | .c => { s with c := v }
  | .d => { s with d := v }
  | .e => { s with e := v }
  | .h => { s with h := v }
  | .l => { s with l := v }
  | .a => { s with a := v }

/-- `b2i` (R8). -/
def b2i (f : Bool) : Nat := if f then 1 else 0

/-- The byte view F (R22): Z, N, H, C in bits 7 to 4, the low nibble 0. -/
def State.flagByte (s : State) : Byte :=
  BitVec.ofNat 8 (b2i s.flags.z * 128 + b2i s.flags.n * 64 + b2i s.flags.h * 32 + b2i s.flags.c * 16)

/-- The flags a byte written to F sets (R23): bits 7 to 4; bits 3 to 0 are discarded. -/
def flagsOfByte (v : Byte) : Flags :=
  { z := v.getLsbD 7, n := v.getLsbD 6, h := v.getLsbD 5, c := v.getLsbD 4 }

/-- `r16[P]` (R25): `(high half << 8) | low half`. -/
def State.pair (s : State) (p : Pair) : Word :=
  match p with
  | .bc => wordOf s.b s.c
  | .de => wordOf s.d s.e
  | .hl => wordOf s.h s.l
  | .af => wordOf s.a s.flagByte

/-- `r16[P] <- v` (R26): both halves are written; for AF the low half through R23. -/
def State.setPair (s : State) (p : Pair) (v : Word) : State :=
  match p with
  | .bc => { s with b := hiByte v, c := loByte v }
  | .de => { s with d := hiByte v, e := loByte v }
  | .hl => { s with h := hiByte v, l := loByte v }
  | .af => { s with a := hiByte v, flags := flagsOfByte (loByte v) }

/-- Writes the four flags. -/
def State.setFlags (s : State) (f : Flags) : State := { s with flags := f }

/-- `SP <- v` (R27). -/
def State.setSp (s : State) (v : Word) : State := { s with sp := v }

/-- `PC <- v` (R28). -/
def State.setPc (s : State) (v : Word) : State := { s with pc := v }

/-! ### The stack -/

/-- `Push16(v)` (R180): the high byte at SP - 1, then the low byte at SP - 2; SP ends at SP - 2. -/
def State.push16 (s : State) (v : Word) : State :=
  ((s.store (s.sp - 1) (hiByte v)).store (s.sp - 2) (loByte v)).setSp (s.sp - 2)

/-- The value `Pop16()` returns (R181): the low byte at SP, the high byte at SP + 1. -/
def State.top16 (s : State) : Word := wordOf (s.load (s.sp + 1)) (s.load s.sp)

/-- The state `Pop16()` leaves (R181): SP + 2, memory unchanged. -/
def State.drop16 (s : State) : State := s.setSp (s.sp + 2)

/-! ### Fetch and the exception -/

/-- PC advanced past `n` fetched bytes (R83, R84), mod 65536. -/
def State.advance (s : State) (n : Nat) : State := s.setPc (s.pc + BitVec.ofNat 16 n)

/-- The bytes at PC, PC + 1 and PC + 2 (R82): as many as the longest instruction has. Reading one that
the instruction does not need has no effect (R58). -/
def State.window (s : State) : List Byte := [s.load s.pc, s.load (s.pc + 1), s.load (s.pc + 2)]

/-- The instruction at PC as the decoder reads it (R82). -/
def fetchDecode (s : State) : DecodeResult := decode s.window

/-- A slot the build leaves without a descriptor (R89, `EXTRA_UNIMPLEMENTED`). Slot 0xCB of the primary
table is never looked up for a descriptor (R82), so naming it has no effect. -/
def lacksDescriptor (cfg : Config) (slot : Slot) : Bool := decide (slot ∈ cfg.extraUnimplemented)

/-- Raising `UnimplementedOpcode` (R260 to R262) after the opcode bytes have been fetched: PC goes back
to pc0, the address of the first of them; `fault` records the bytes and pc0; nothing else changes. -/
def raiseUnimplemented (bytes : List Byte) (s : State) : State :=
  { s with
    pc := s.pc - BitVec.ofNat 16 bytes.length
    fault := some (.unimplementedOpcode bytes (s.pc - BitVec.ofNat 16 bytes.length)) }

end Sys2Proof.Machine
end

