-- ==== Sys2Proof/Machine/Operands.lean ====
section
/-! DEFINITION. The operand forms (spec/30_encoding.md R72 to R81, spec/42_alu8.md R130) and the condition
codes (spec/46_control.md R220). An immediate is the instruction's argument. -/

namespace Sys2Proof.Machine

/-- `Read8` (R77): the register, or the byte at HL. -/
def State.read8 (s : State) (o : Opnd8) : Byte :=
  match o with
  | .reg r => s.reg8 r
  | .atHl => s.load (s.pair .hl)

/-- `Write8` (R77): the register, or the byte at HL. -/
def State.write8 (s : State) (o : Opnd8) (v : Byte) : State :=
  match o with
  | .reg r => s.setReg8 r v
  | .atHl => s.store (s.pair .hl) v

/-- The second operand s of an accumulator operation (R130). -/
def State.aluOperand (s : State) (src : AluSrc) : Byte :=
  match src with
  | .opnd o => s.read8 o
  | .imm n => n

/-- Reads a 16-bit operand of the SP group (R78). -/
def State.read16 (s : State) (r : Reg16) : Word :=
  match r with
  | .bc => s.pair .bc
  | .de => s.pair .de
  | .hl => s.pair .hl
  | .sp => s.sp

/-- Writes a 16-bit operand of the SP group (R78). -/
def State.write16 (s : State) (r : Reg16) (v : Word) : State :=
  match r with
  | .bc => s.setPair .bc v
  | .de => s.setPair .de v
  | .hl => s.setPair .hl v
  | .sp => s.setSp v

/-- The address 0xFF00 + n of a fixed-high-byte operand (R74); it never wraps. -/
def highPage (n : Byte) : Word := wordOf 0xFF n

/-- `sext_16(e8)` (R8, R75). -/
def sext16 (e8 : Byte) : Word := e8.signExtend 16

/-- `cond(cc)` (R220): a predicate over Z or C. -/
def condHolds (cc : Cond) (f : Flags) : Bool :=
  match cc with
  | .nz => !f.z
  | .z => f.z
  | .nc => !f.c
  | .c => f.c

/-- The target of `RST y*8` (R81, R231). -/
def rstTarget (y : Fin 8) : Word := BitVec.ofNat 16 (y.val * 8)

end Sys2Proof.Machine
end

