-- ==== Sys2Proof/Machine/Flags.lean ====
section
/-! DEFINITION. Every result and flag computation the spec gives (spec/42_alu8.md, 43_arith16.md,
45_rotate_bit.md, 47_misc.md). Values are taken as exact integers and brought back into range at the end
(spec/00_scope.md R8). A flag an instruction does not name is copied from the flags before (R24). -/

namespace Sys2Proof.Machine

/-! ### The accumulator operations (R131 to R138) -/

/-- Flags `Z 0 H C` of ADD and ADC (R131, R132): the carry in is part of both widened sums. -/
def addFlags (x v : Byte) (cin : Bool) : Flags :=
  { z := decide ((x.toNat + v.toNat + b2i cin) % 256 = 0)
    n := false
    h := decide (x.toNat % 16 + v.toNat % 16 + b2i cin > 0x0F)
    c := decide (x.toNat + v.toNat + b2i cin > 0xFF) }

/-- The result of ADD and ADC (R131, R132): the sum mod 256. -/
def addResult (x v : Byte) (cin : Bool) : Byte := BitVec.ofNat 8 (x.toNat + v.toNat + b2i cin)

/-- The exact difference a - s - cin of SUB, SBC and CP (R133, R134, R138). -/
def difference (x v : Byte) (cin : Bool) : Int := (x.toNat : Int) - v.toNat - b2i cin

/-- Flags `Z 1 H C` of SUB, SBC and CP (R133, R134, R138): H is the borrow into bit 3, C the borrow out
of bit 7, both with the incoming carry (90_conflicts C4). -/
def subFlags (x v : Byte) (cin : Bool) : Flags :=
  { z := decide (difference x v cin % 256 = 0)
    n := true
    h := decide (x.toNat % 16 < v.toNat % 16 + b2i cin)
    c := decide (v.toNat + b2i cin > x.toNat) }

/-- The result of SUB and SBC (R133, R134): the difference mod 256. -/
def subResult (x v : Byte) (cin : Bool) : Byte := BitVec.ofInt 8 (difference x v cin)

/-- Flags of AND, XOR and OR (R135 to R137): Z from the result, N = C = 0, H as given. -/
def logicFlags (res : Byte) (hFlag : Bool) : Flags :=
  { z := decide (res = 0), n := false, h := hFlag, c := false }

/-- The flags an accumulator operation leaves, from A, s and the flags before (R131 to R138). -/
def aluFlags (op : AluOp) (x v : Byte) (f : Flags) : Flags :=
  match op with
  | .add => addFlags x v false
  | .adc => addFlags x v f.c
  | .sub => subFlags x v false
  | .sbc => subFlags x v f.c
  | .and => logicFlags (x &&& v) true
  | .xor => logicFlags (x ^^^ v) false
  | .or => logicFlags (x ||| v) false
  | .cp => subFlags x v false

/-- What an accumulator operation leaves in A (R131 to R138); CP leaves A as it was. -/
def aluResult (op : AluOp) (x v : Byte) (f : Flags) : Byte :=
  match op with
  | .add => addResult x v false
  | .adc => addResult x v f.c
  | .sub => subResult x v false
  | .sbc => subResult x v f.c
  | .and => x &&& v
  | .xor => x ^^^ v
  | .or => x ||| v
  | .cp => x

/-! ### 8-bit INC and DEC (R139 to R142) -/

/-- The result of INC (R139): (v + 1) mod 256. -/
def incResult (v : Byte) : Byte := v + 1

/-- Flags `Z * H -` of INC (R139): H from the result's low nibble; N is unaffected under DOC and
cleared under SM83. -/
def incFlags (profile : FlagProfile) (v : Byte) (f : Flags) : Flags :=
  { z := decide (incResult v = 0)
    n := match profile with
      | .doc => f.n
      | .sm83 => false
    h := decide ((incResult v).toNat % 16 = 0)
    c := f.c }

/-- The result of DEC (R141): (v - 1) mod 256. -/
def decResult (v : Byte) : Byte := v - 1

/-- Flags `Z 1 H -` of DEC (R141): H when the operand's low nibble was 0. -/
def decFlags (v : Byte) (f : Flags) : Flags :=
  { z := decide (decResult v = 0), n := true, h := decide (v.toNat % 16 = 0), c := f.c }

/-! ### 16-bit sums (R160, R161) -/

/-- Flags `- 0 H C` of ADD HL,rr (R160): the carries out of bits 11 and 15. -/
def addHlFlags (hl v : Word) (f : Flags) : Flags :=
  { z := f.z
    n := false
    h := decide (hl.toNat % 4096 + v.toNat % 4096 > 0x0FFF)
    c := decide (hl.toNat + v.toNat > 0xFFFF) }

/-- The result of `SPE(e8)` (R161): SP plus the sign-extended immediate, mod 65536. -/
def speResult (sp : Word) (e8 : Byte) : Word := sp + sext16 e8

/-- The flags of `SPE(e8)` (R161): Z = N = 0; H and C are the carries out of bits 11 and 15 under DOC,
out of bits 3 and 7 of the unsigned low bytes under SM83. -/
def speFlags (profile : FlagProfile) (sp : Word) (e8 : Byte) : Flags :=
  match profile with
  | .doc =>
    { z := false
      n := false
      h := decide (sp.toNat % 4096 + (sext16 e8).toNat % 4096 > 0x0FFF)
      c := decide (sp.toNat + (sext16 e8).toNat > 0xFFFF) }
  | .sm83 =>
    { z := false
      n := false
      h := decide (sp.toNat % 16 + e8.toNat % 16 > 0x0F)
      c := decide (sp.toNat % 256 + e8.toNat > 0xFF) }

/-! ### Rotates, shifts and bits (R190 to R206) -/

/-- The result of a rotate or shift (R196 to R203) of `x` with the carry in. -/
def shiftResult (op : ShiftOp) (x : Byte) (cin : Bool) : Byte :=
  match op with
  | .rlc => BitVec.ofNat 8 (x.toNat * 2 + b2i (x.getLsbD 7))
  | .rrc => BitVec.ofNat 8 (x.toNat / 2 + b2i (x.getLsbD 0) * 128)
  | .rl => BitVec.ofNat 8 (x.toNat * 2 + b2i cin)
  | .rr => BitVec.ofNat 8 (x.toNat / 2 + b2i cin * 128)
  | .sla => BitVec.ofNat 8 (x.toNat * 2)
  | .sra => BitVec.ofNat 8 (x.toNat / 2 + b2i (x.getLsbD 7) * 128)
  | .swap => BitVec.ofNat 8 (x.toNat % 16 * 16 + x.toNat / 16)
  | .srl => BitVec.ofNat 8 (x.toNat / 2)

/-- The carry a rotate or shift leaves: the bit shifted out (R190); SWAP leaves 0 (R202). -/
def shiftCarry (op : ShiftOp) (x : Byte) : Bool :=
  match op with
  | .rlc | .rl | .sla => x.getLsbD 7
  | .rrc | .rr | .sra | .srl => x.getLsbD 0
  | .swap => false

/-- Flags of the CB rotates and shifts (R190, R196 to R203): Z from the result, N = H = 0. -/
def shiftFlags (op : ShiftOp) (x : Byte) (cin : Bool) : Flags :=
  { z := decide (shiftResult op x cin = 0), n := false, h := false, c := shiftCarry op x }

/-- Flags `0 0 0 C` of the accumulator rotates (R191 to R194). -/
def accRotateFlags (op : ShiftOp) (x : Byte) : Flags :=
  { z := false, n := false, h := false, c := shiftCarry op x }

/-- Flags `Z 0 1 -` of BIT (R204). -/
def bitFlags (y : Fin 8) (x : Byte) (f : Flags) : Flags :=
  { z := !x.getLsbD y.val, n := false, h := true, c := f.c }

/-- The byte with bit y alone set, `1 << y` (R205, R206). -/
def bitMask (y : Fin 8) : Byte := BitVec.ofNat 8 (2 ^ y.val)

/-! ### Decimal adjust (R248) -/

/-- R248's first test after an addition: the upper digit needs 0x60. -/
def daaHighFix (x : Byte) (f : Flags) : Bool := f.c || decide (x.toNat > 0x99)

/-- R248's second test after an addition: the lower digit needs 0x06. Adding 0x60 first does not
change bits 3 to 0. -/
def daaLowFix (x : Byte) (f : Flags) : Bool := f.h || decide (x.toNat % 16 > 0x09)

/-- The adjusted value before it is taken mod 256 (R248). -/
def daaValue (x : Byte) (f : Flags) : Int :=
  if f.n then (x.toNat : Int) - b2i f.c * 0x60 - b2i f.h * 0x06
  else (x.toNat : Int) + b2i (daaHighFix x f) * 0x60 + b2i (daaLowFix x f) * 0x06

/-- What DAA leaves in A (R248). -/
def daaResult (x : Byte) (f : Flags) : Byte := BitVec.ofInt 8 (daaValue x f)

/-- Flags `Z - 0 C` of DAA (R248, 90_conflicts C13): C is set or left, never cleared. -/
def daaFlags (x : Byte) (f : Flags) : Flags :=
  { z := decide (daaResult x f = 0)
    n := f.n
    h := false
    c := if f.n then f.c else daaHighFix x f }

end Sys2Proof.Machine
end

