-- ==== Sys2Proof/Machine/Alu8.lean ====
section
/-! DEFINITION. The 8-bit arithmetic and logic family (spec/42_alu8.md R130 to R144). -/

namespace Sys2Proof.Machine

/-! ### Shared operations -/

/-- `ALU A,s` (R130 to R138): A and the flags from A, the second operand and the flags before. -/
def opAlu (op : AluOp) (src : AluSrc) (s : State) : State :=
  { s with
    a := aluResult op s.a (s.aluOperand src) s.flags
    flags := aluFlags op s.a (s.aluOperand src) s.flags }

/-- `INC r` and `INC (HL)` (R139, R140). -/
def opInc (o : Opnd8) (s : State) : State :=
  (s.write8 o (incResult (s.read8 o))).setFlags (incFlags s.config.flagProfile (s.read8 o) s.flags)

/-- `DEC r` and `DEC (HL)` (R141, R142). -/
def opDec (o : Opnd8) (s : State) : State :=
  (s.write8 o (decResult (s.read8 o))).setFlags (decFlags (s.read8 o) s.flags)

/-! ### The meanings -/

/-- `INC B` (R139). -/
def execIncB (s : State) : Result := .next (opInc (.reg .b) s)

/-- `DEC B` (R141). -/
def execDecB (s : State) : Result := .next (opDec (.reg .b) s)

/-- `INC C` (R139). -/
def execIncC (s : State) : Result := .next (opInc (.reg .c) s)

/-- `DEC C` (R141). -/
def execDecC (s : State) : Result := .next (opDec (.reg .c) s)

/-- `INC D` (R139). -/
def execIncD (s : State) : Result := .next (opInc (.reg .d) s)

/-- `DEC D` (R141). -/
def execDecD (s : State) : Result := .next (opDec (.reg .d) s)

/-- `INC E` (R139). -/
def execIncE (s : State) : Result := .next (opInc (.reg .e) s)

/-- `DEC E` (R141). -/
def execDecE (s : State) : Result := .next (opDec (.reg .e) s)

/-- `INC H` (R139). -/
def execIncH (s : State) : Result := .next (opInc (.reg .h) s)

/-- `DEC H` (R141). -/
def execDecH (s : State) : Result := .next (opDec (.reg .h) s)

/-- `INC L` (R139). -/
def execIncL (s : State) : Result := .next (opInc (.reg .l) s)

/-- `DEC L` (R141). -/
def execDecL (s : State) : Result := .next (opDec (.reg .l) s)

/-- `INC (HL)` (R140). -/
def execIncAtHl (s : State) : Result := .next (opInc .atHl s)

/-- `DEC (HL)` (R142). -/
def execDecAtHl (s : State) : Result := .next (opDec .atHl s)

/-- `INC A` (R139). -/
def execIncA (s : State) : Result := .next (opInc (.reg .a) s)

/-- `DEC A` (R141). -/
def execDecA (s : State) : Result := .next (opDec (.reg .a) s)

/-- `ADD A,B` (R131). -/
def execAddAB (s : State) : Result := .next (opAlu .add (.opnd (.reg .b)) s)

/-- `ADD A,C` (R131). -/
def execAddAC (s : State) : Result := .next (opAlu .add (.opnd (.reg .c)) s)

/-- `ADD A,D` (R131). -/
def execAddAD (s : State) : Result := .next (opAlu .add (.opnd (.reg .d)) s)

/-- `ADD A,E` (R131). -/
def execAddAE (s : State) : Result := .next (opAlu .add (.opnd (.reg .e)) s)

/-- `ADD A,H` (R131). -/
def execAddAH (s : State) : Result := .next (opAlu .add (.opnd (.reg .h)) s)

/-- `ADD A,L` (R131). -/
def execAddAL (s : State) : Result := .next (opAlu .add (.opnd (.reg .l)) s)

/-- `ADD A,(HL)` (R131). -/
def execAddAAtHl (s : State) : Result := .next (opAlu .add (.opnd .atHl) s)

/-- `ADD A,A` (R131). -/
def execAddAA (s : State) : Result := .next (opAlu .add (.opnd (.reg .a)) s)

/-- `ADC A,B` (R132). -/
def execAdcAB (s : State) : Result := .next (opAlu .adc (.opnd (.reg .b)) s)

/-- `ADC A,C` (R132). -/
def execAdcAC (s : State) : Result := .next (opAlu .adc (.opnd (.reg .c)) s)

/-- `ADC A,D` (R132). -/
def execAdcAD (s : State) : Result := .next (opAlu .adc (.opnd (.reg .d)) s)

/-- `ADC A,E` (R132). -/
def execAdcAE (s : State) : Result := .next (opAlu .adc (.opnd (.reg .e)) s)

/-- `ADC A,H` (R132). -/
def execAdcAH (s : State) : Result := .next (opAlu .adc (.opnd (.reg .h)) s)

/-- `ADC A,L` (R132). -/
def execAdcAL (s : State) : Result := .next (opAlu .adc (.opnd (.reg .l)) s)

/-- `ADC A,(HL)` (R132). -/
def execAdcAAtHl (s : State) : Result := .next (opAlu .adc (.opnd .atHl) s)

/-- `ADC A,A` (R132). -/
def execAdcAA (s : State) : Result := .next (opAlu .adc (.opnd (.reg .a)) s)

/-- `SUB A,B` (R133). -/
def execSubAB (s : State) : Result := .next (opAlu .sub (.opnd (.reg .b)) s)

/-- `SUB A,C` (R133). -/
def execSubAC (s : State) : Result := .next (opAlu .sub (.opnd (.reg .c)) s)

/-- `SUB A,D` (R133). -/
def execSubAD (s : State) : Result := .next (opAlu .sub (.opnd (.reg .d)) s)

/-- `SUB A,E` (R133). -/
def execSubAE (s : State) : Result := .next (opAlu .sub (.opnd (.reg .e)) s)

/-- `SUB A,H` (R133). -/
def execSubAH (s : State) : Result := .next (opAlu .sub (.opnd (.reg .h)) s)

/-- `SUB A,L` (R133). -/
def execSubAL (s : State) : Result := .next (opAlu .sub (.opnd (.reg .l)) s)

/-- `SUB A,(HL)` (R133). -/
def execSubAAtHl (s : State) : Result := .next (opAlu .sub (.opnd .atHl) s)

/-- `SUB A,A` (R133). -/
def execSubAA (s : State) : Result := .next (opAlu .sub (.opnd (.reg .a)) s)

/-- `SBC A,B` (R134). -/
def execSbcAB (s : State) : Result := .next (opAlu .sbc (.opnd (.reg .b)) s)

/-- `SBC A,C` (R134). -/
def execSbcAC (s : State) : Result := .next (opAlu .sbc (.opnd (.reg .c)) s)

/-- `SBC A,D` (R134). -/
def execSbcAD (s : State) : Result := .next (opAlu .sbc (.opnd (.reg .d)) s)

/-- `SBC A,E` (R134). -/
def execSbcAE (s : State) : Result := .next (opAlu .sbc (.opnd (.reg .e)) s)

/-- `SBC A,H` (R134). -/
def execSbcAH (s : State) : Result := .next (opAlu .sbc (.opnd (.reg .h)) s)

/-- `SBC A,L` (R134). -/
def execSbcAL (s : State) : Result := .next (opAlu .sbc (.opnd (.reg .l)) s)

/-- `SBC A,(HL)` (R134). -/
def execSbcAAtHl (s : State) : Result := .next (opAlu .sbc (.opnd .atHl) s)

/-- `SBC A,A` (R134). -/
def execSbcAA (s : State) : Result := .next (opAlu .sbc (.opnd (.reg .a)) s)

/-- `AND A,B` (R135). -/
def execAndAB (s : State) : Result := .next (opAlu .and (.opnd (.reg .b)) s)

/-- `AND A,C` (R135). -/
def execAndAC (s : State) : Result := .next (opAlu .and (.opnd (.reg .c)) s)

/-- `AND A,D` (R135). -/
def execAndAD (s : State) : Result := .next (opAlu .and (.opnd (.reg .d)) s)

/-- `AND A,E` (R135). -/
def execAndAE (s : State) : Result := .next (opAlu .and (.opnd (.reg .e)) s)

/-- `AND A,H` (R135). -/
def execAndAH (s : State) : Result := .next (opAlu .and (.opnd (.reg .h)) s)

/-- `AND A,L` (R135). -/
def execAndAL (s : State) : Result := .next (opAlu .and (.opnd (.reg .l)) s)

/-- `AND A,(HL)` (R135). -/
def execAndAAtHl (s : State) : Result := .next (opAlu .and (.opnd .atHl) s)

/-- `AND A,A` (R135). -/
def execAndAA (s : State) : Result := .next (opAlu .and (.opnd (.reg .a)) s)

/-- `XOR A,B` (R136). -/
def execXorAB (s : State) : Result := .next (opAlu .xor (.opnd (.reg .b)) s)

/-- `XOR A,C` (R136). -/
def execXorAC (s : State) : Result := .next (opAlu .xor (.opnd (.reg .c)) s)

/-- `XOR A,D` (R136). -/
def execXorAD (s : State) : Result := .next (opAlu .xor (.opnd (.reg .d)) s)

/-- `XOR A,E` (R136). -/
def execXorAE (s : State) : Result := .next (opAlu .xor (.opnd (.reg .e)) s)

/-- `XOR A,H` (R136). -/
def execXorAH (s : State) : Result := .next (opAlu .xor (.opnd (.reg .h)) s)

/-- `XOR A,L` (R136). -/
def execXorAL (s : State) : Result := .next (opAlu .xor (.opnd (.reg .l)) s)

/-- `XOR A,(HL)` (R136). -/
def execXorAAtHl (s : State) : Result := .next (opAlu .xor (.opnd .atHl) s)

/-- `XOR A,A` (R136). -/
def execXorAA (s : State) : Result := .next (opAlu .xor (.opnd (.reg .a)) s)

/-- `OR A,B` (R137). -/
def execOrAB (s : State) : Result := .next (opAlu .or (.opnd (.reg .b)) s)

/-- `OR A,C` (R137). -/
def execOrAC (s : State) : Result := .next (opAlu .or (.opnd (.reg .c)) s)

/-- `OR A,D` (R137). -/
def execOrAD (s : State) : Result := .next (opAlu .or (.opnd (.reg .d)) s)

/-- `OR A,E` (R137). -/
def execOrAE (s : State) : Result := .next (opAlu .or (.opnd (.reg .e)) s)

/-- `OR A,H` (R137). -/
def execOrAH (s : State) : Result := .next (opAlu .or (.opnd (.reg .h)) s)

/-- `OR A,L` (R137). -/
def execOrAL (s : State) : Result := .next (opAlu .or (.opnd (.reg .l)) s)

/-- `OR A,(HL)` (R137). -/
def execOrAAtHl (s : State) : Result := .next (opAlu .or (.opnd .atHl) s)

/-- `OR A,A` (R137). -/
def execOrAA (s : State) : Result := .next (opAlu .or (.opnd (.reg .a)) s)

/-- `CP A,B` (R138). -/
def execCpAB (s : State) : Result := .next (opAlu .cp (.opnd (.reg .b)) s)

/-- `CP A,C` (R138). -/
def execCpAC (s : State) : Result := .next (opAlu .cp (.opnd (.reg .c)) s)

/-- `CP A,D` (R138). -/
def execCpAD (s : State) : Result := .next (opAlu .cp (.opnd (.reg .d)) s)

/-- `CP A,E` (R138). -/
def execCpAE (s : State) : Result := .next (opAlu .cp (.opnd (.reg .e)) s)

/-- `CP A,H` (R138). -/
def execCpAH (s : State) : Result := .next (opAlu .cp (.opnd (.reg .h)) s)

/-- `CP A,L` (R138). -/
def execCpAL (s : State) : Result := .next (opAlu .cp (.opnd (.reg .l)) s)

/-- `CP A,(HL)` (R138). -/
def execCpAAtHl (s : State) : Result := .next (opAlu .cp (.opnd .atHl) s)

/-- `CP A,A` (R138). -/
def execCpAA (s : State) : Result := .next (opAlu .cp (.opnd (.reg .a)) s)

/-- `ADD A,d8` (R131). -/
def execAddAD8 (n : Byte) (s : State) : Result := .next (opAlu .add (.imm n) s)

/-- `ADC A,d8` (R132). -/
def execAdcAD8 (n : Byte) (s : State) : Result := .next (opAlu .adc (.imm n) s)

/-- `SUB A,d8` (R133). -/
def execSubAD8 (n : Byte) (s : State) : Result := .next (opAlu .sub (.imm n) s)

/-- `SBC A,d8` (R134). -/
def execSbcAD8 (n : Byte) (s : State) : Result := .next (opAlu .sbc (.imm n) s)

/-- `AND A,d8` (R135). -/
def execAndAD8 (n : Byte) (s : State) : Result := .next (opAlu .and (.imm n) s)

/-- `XOR A,d8` (R136). -/
def execXorAD8 (n : Byte) (s : State) : Result := .next (opAlu .xor (.imm n) s)

/-- `OR A,d8` (R137). -/
def execOrAD8 (n : Byte) (s : State) : Result := .next (opAlu .or (.imm n) s)

/-- `CP A,d8` (R138). -/
def execCpAD8 (n : Byte) (s : State) : Result := .next (opAlu .cp (.imm n) s)

end Sys2Proof.Machine
end

