-- ==== Sys2Proof/Machine/Arith16.lean ====
section
/-! DEFINITION. The 16-bit arithmetic family (spec/43_arith16.md R160 to R165). -/

namespace Sys2Proof.Machine

/-! ### Shared operations -/

/-- `ADD HL,rr` (R160). -/
def opAddHl (r : Reg16) (s : State) : State :=
  (s.setPair .hl (s.pair .hl + s.read16 r)).setFlags (addHlFlags (s.pair .hl) (s.read16 r) s.flags)

/-- `ADD SP,e8` (R161, R162). -/
def opAddSp (e8 : Byte) (s : State) : State :=
  (s.setSp (speResult s.sp e8)).setFlags (speFlags s.config.flagProfile s.sp e8)

/-- `LD HL,SP+e8` (R161, R163); SP is not changed. -/
def opLdHlSp (e8 : Byte) (s : State) : State :=
  (s.setPair .hl (speResult s.sp e8)).setFlags (speFlags s.config.flagProfile s.sp e8)

/-! ### The meanings -/

/-- `INC BC` (R164). -/
def execIncBc (s : State) : Result := .next (s.write16 .bc (s.read16 .bc + 1))

/-- `ADD HL,BC` (R160). -/
def execAddHlBc (s : State) : Result := .next (opAddHl .bc s)

/-- `DEC BC` (R165). -/
def execDecBc (s : State) : Result := .next (s.write16 .bc (s.read16 .bc - 1))

/-- `INC DE` (R164). -/
def execIncDe (s : State) : Result := .next (s.write16 .de (s.read16 .de + 1))

/-- `ADD HL,DE` (R160). -/
def execAddHlDe (s : State) : Result := .next (opAddHl .de s)

/-- `DEC DE` (R165). -/
def execDecDe (s : State) : Result := .next (s.write16 .de (s.read16 .de - 1))

/-- `INC HL` (R164). -/
def execIncHl (s : State) : Result := .next (s.write16 .hl (s.read16 .hl + 1))

/-- `ADD HL,HL` (R160). -/
def execAddHlHl (s : State) : Result := .next (opAddHl .hl s)

/-- `DEC HL` (R165). -/
def execDecHl (s : State) : Result := .next (s.write16 .hl (s.read16 .hl - 1))

/-- `INC SP` (R164). -/
def execIncSp (s : State) : Result := .next (s.write16 .sp (s.read16 .sp + 1))

/-- `ADD HL,SP` (R160). -/
def execAddHlSp (s : State) : Result := .next (opAddHl .sp s)

/-- `DEC SP` (R165). -/
def execDecSp (s : State) : Result := .next (s.write16 .sp (s.read16 .sp - 1))

/-- `ADD SP,e8` (R162). -/
def execAddSpE8 (n : Byte) (s : State) : Result := .next (opAddSp n s)

/-- `LD HL,SP+e8` (R163). -/
def execLdHlSpE8 (n : Byte) (s : State) : Result := .next (opLdHlSp n s)

end Sys2Proof.Machine
end

