-- ==== Sys2Proof/Machine/RotateBit.lean ====
section
/-! DEFINITION. The rotate, shift and bit family (spec/45_rotate_bit.md R190 to R206): the four accumulator
rotates and the 256 instructions of the CB table. -/

namespace Sys2Proof.Machine

/-! ### Shared operations -/

/-- RLCA, RRCA, RLA and RRA (R191 to R194): the rotate of A, with Z cleared. -/
def opAccRotate (op : ShiftOp) (s : State) : State :=
  { s with a := shiftResult op s.a s.flags.c, flags := accRotateFlags op s.a }

/-- A rotate, shift or SWAP of an 8-bit operand (R195 to R203). -/
def opShift (op : ShiftOp) (o : Opnd8) (s : State) : State :=
  (s.write8 o (shiftResult op (s.read8 o) s.flags.c)).setFlags
    (shiftFlags op (s.read8 o) s.flags.c)

/-- `BIT b,r` (R204): the operand is not written. -/
def opBit (y : Fin 8) (o : Opnd8) (s : State) : State := s.setFlags (bitFlags y (s.read8 o) s.flags)

/-- `RES b,r` (R205). -/
def opRes (y : Fin 8) (o : Opnd8) (s : State) : State := s.write8 o (s.read8 o &&& ~~~bitMask y)

/-- `SET b,r` (R206). -/
def opSet (y : Fin 8) (o : Opnd8) (s : State) : State := s.write8 o (s.read8 o ||| bitMask y)

/-! ### The meanings -/

/-- `RLCA` (R191). -/
def execRlca (s : State) : Result := .next (opAccRotate .rlc s)

/-- `RRCA` (R192). -/
def execRrca (s : State) : Result := .next (opAccRotate .rrc s)

/-- `RLA` (R193). -/
def execRla (s : State) : Result := .next (opAccRotate .rl s)

/-- `RRA` (R194). -/
def execRra (s : State) : Result := .next (opAccRotate .rr s)

/-- `RLC B` (R196). -/
def execRlcB (s : State) : Result := .next (opShift .rlc (.reg .b) s)

/-- `RLC C` (R196). -/
def execRlcC (s : State) : Result := .next (opShift .rlc (.reg .c) s)

/-- `RLC D` (R196). -/
def execRlcD (s : State) : Result := .next (opShift .rlc (.reg .d) s)

/-- `RLC E` (R196). -/
def execRlcE (s : State) : Result := .next (opShift .rlc (.reg .e) s)

/-- `RLC H` (R196). -/
def execRlcH (s : State) : Result := .next (opShift .rlc (.reg .h) s)

/-- `RLC L` (R196). -/
def execRlcL (s : State) : Result := .next (opShift .rlc (.reg .l) s)

/-- `RLC (HL)` (R196). -/
def execRlcAtHl (s : State) : Result := .next (opShift .rlc .atHl s)

/-- `RLC A` (R196). -/
def execRlcA (s : State) : Result := .next (opShift .rlc (.reg .a) s)

/-- `RRC B` (R197). -/
def execRrcB (s : State) : Result := .next (opShift .rrc (.reg .b) s)

/-- `RRC C` (R197). -/
def execRrcC (s : State) : Result := .next (opShift .rrc (.reg .c) s)

/-- `RRC D` (R197). -/
def execRrcD (s : State) : Result := .next (opShift .rrc (.reg .d) s)

/-- `RRC E` (R197). -/
def execRrcE (s : State) : Result := .next (opShift .rrc (.reg .e) s)

/-- `RRC H` (R197). -/
def execRrcH (s : State) : Result := .next (opShift .rrc (.reg .h) s)

/-- `RRC L` (R197). -/
def execRrcL (s : State) : Result := .next (opShift .rrc (.reg .l) s)

/-- `RRC (HL)` (R197). -/
def execRrcAtHl (s : State) : Result := .next (opShift .rrc .atHl s)

/-- `RRC A` (R197). -/
def execRrcA (s : State) : Result := .next (opShift .rrc (.reg .a) s)

/-- `RL B` (R198). -/
def execRlB (s : State) : Result := .next (opShift .rl (.reg .b) s)

/-- `RL C` (R198). -/
def execRlC (s : State) : Result := .next (opShift .rl (.reg .c) s)

/-- `RL D` (R198). -/
def execRlD (s : State) : Result := .next (opShift .rl (.reg .d) s)

/-- `RL E` (R198). -/
def execRlE (s : State) : Result := .next (opShift .rl (.reg .e) s)

/-- `RL H` (R198). -/
def execRlH (s : State) : Result := .next (opShift .rl (.reg .h) s)

/-- `RL L` (R198). -/
def execRlL (s : State) : Result := .next (opShift .rl (.reg .l) s)

/-- `RL (HL)` (R198). -/
def execRlAtHl (s : State) : Result := .next (opShift .rl .atHl s)

/-- `RL A` (R198). -/
def execRlA (s : State) : Result := .next (opShift .rl (.reg .a) s)

/-- `RR B` (R199). -/
def execRrB (s : State) : Result := .next (opShift .rr (.reg .b) s)

/-- `RR C` (R199). -/
def execRrC (s : State) : Result := .next (opShift .rr (.reg .c) s)

/-- `RR D` (R199). -/
def execRrD (s : State) : Result := .next (opShift .rr (.reg .d) s)

/-- `RR E` (R199). -/
def execRrE (s : State) : Result := .next (opShift .rr (.reg .e) s)

/-- `RR H` (R199). -/
def execRrH (s : State) : Result := .next (opShift .rr (.reg .h) s)

/-- `RR L` (R199). -/
def execRrL (s : State) : Result := .next (opShift .rr (.reg .l) s)

/-- `RR (HL)` (R199). -/
def execRrAtHl (s : State) : Result := .next (opShift .rr .atHl s)

/-- `RR A` (R199). -/
def execRrA (s : State) : Result := .next (opShift .rr (.reg .a) s)

/-- `SLA B` (R200). -/
def execSlaB (s : State) : Result := .next (opShift .sla (.reg .b) s)

/-- `SLA C` (R200). -/
def execSlaC (s : State) : Result := .next (opShift .sla (.reg .c) s)

/-- `SLA D` (R200). -/
def execSlaD (s : State) : Result := .next (opShift .sla (.reg .d) s)

/-- `SLA E` (R200). -/
def execSlaE (s : State) : Result := .next (opShift .sla (.reg .e) s)

/-- `SLA H` (R200). -/
def execSlaH (s : State) : Result := .next (opShift .sla (.reg .h) s)

/-- `SLA L` (R200). -/
def execSlaL (s : State) : Result := .next (opShift .sla (.reg .l) s)

/-- `SLA (HL)` (R200). -/
def execSlaAtHl (s : State) : Result := .next (opShift .sla .atHl s)

/-- `SLA A` (R200). -/
def execSlaA (s : State) : Result := .next (opShift .sla (.reg .a) s)

/-- `SRA B` (R201). -/
def execSraB (s : State) : Result := .next (opShift .sra (.reg .b) s)

/-- `SRA C` (R201). -/
def execSraC (s : State) : Result := .next (opShift .sra (.reg .c) s)

/-- `SRA D` (R201). -/
def execSraD (s : State) : Result := .next (opShift .sra (.reg .d) s)

/-- `SRA E` (R201). -/
def execSraE (s : State) : Result := .next (opShift .sra (.reg .e) s)

/-- `SRA H` (R201). -/
def execSraH (s : State) : Result := .next (opShift .sra (.reg .h) s)

/-- `SRA L` (R201). -/
def execSraL (s : State) : Result := .next (opShift .sra (.reg .l) s)

/-- `SRA (HL)` (R201). -/
def execSraAtHl (s : State) : Result := .next (opShift .sra .atHl s)

/-- `SRA A` (R201). -/
def execSraA (s : State) : Result := .next (opShift .sra (.reg .a) s)

/-- `SWAP B` (R202). -/
def execSwapB (s : State) : Result := .next (opShift .swap (.reg .b) s)

/-- `SWAP C` (R202). -/
def execSwapC (s : State) : Result := .next (opShift .swap (.reg .c) s)

/-- `SWAP D` (R202). -/
def execSwapD (s : State) : Result := .next (opShift .swap (.reg .d) s)

/-- `SWAP E` (R202). -/
def execSwapE (s : State) : Result := .next (opShift .swap (.reg .e) s)

/-- `SWAP H` (R202). -/
def execSwapH (s : State) : Result := .next (opShift .swap (.reg .h) s)

/-- `SWAP L` (R202). -/
def execSwapL (s : State) : Result := .next (opShift .swap (.reg .l) s)

/-- `SWAP (HL)` (R202). -/
def execSwapAtHl (s : State) : Result := .next (opShift .swap .atHl s)

/-- `SWAP A` (R202). -/
def execSwapA (s : State) : Result := .next (opShift .swap (.reg .a) s)

/-- `SRL B` (R203). -/
def execSrlB (s : State) : Result := .next (opShift .srl (.reg .b) s)

/-- `SRL C` (R203). -/
def execSrlC (s : State) : Result := .next (opShift .srl (.reg .c) s)

/-- `SRL D` (R203). -/
def execSrlD (s : State) : Result := .next (opShift .srl (.reg .d) s)

/-- `SRL E` (R203). -/
def execSrlE (s : State) : Result := .next (opShift .srl (.reg .e) s)

/-- `SRL H` (R203). -/
def execSrlH (s : State) : Result := .next (opShift .srl (.reg .h) s)

/-- `SRL L` (R203). -/
def execSrlL (s : State) : Result := .next (opShift .srl (.reg .l) s)

/-- `SRL (HL)` (R203). -/
def execSrlAtHl (s : State) : Result := .next (opShift .srl .atHl s)

/-- `SRL A` (R203). -/
def execSrlA (s : State) : Result := .next (opShift .srl (.reg .a) s)

/-- `BIT 0,B` (R204). -/
def execBit0B (s : State) : Result := .next (opBit 0 (.reg .b) s)

/-- `BIT 0,C` (R204). -/
def execBit0C (s : State) : Result := .next (opBit 0 (.reg .c) s)

/-- `BIT 0,D` (R204). -/
def execBit0D (s : State) : Result := .next (opBit 0 (.reg .d) s)

/-- `BIT 0,E` (R204). -/
def execBit0E (s : State) : Result := .next (opBit 0 (.reg .e) s)

/-- `BIT 0,H` (R204). -/
def execBit0H (s : State) : Result := .next (opBit 0 (.reg .h) s)

/-- `BIT 0,L` (R204). -/
def execBit0L (s : State) : Result := .next (opBit 0 (.reg .l) s)

/-- `BIT 0,(HL)` (R204). -/
def execBit0AtHl (s : State) : Result := .next (opBit 0 .atHl s)

/-- `BIT 0,A` (R204). -/
def execBit0A (s : State) : Result := .next (opBit 0 (.reg .a) s)

/-- `BIT 1,B` (R204). -/
def execBit1B (s : State) : Result := .next (opBit 1 (.reg .b) s)

/-- `BIT 1,C` (R204). -/
def execBit1C (s : State) : Result := .next (opBit 1 (.reg .c) s)

/-- `BIT 1,D` (R204). -/
def execBit1D (s : State) : Result := .next (opBit 1 (.reg .d) s)

/-- `BIT 1,E` (R204). -/
def execBit1E (s : State) : Result := .next (opBit 1 (.reg .e) s)

/-- `BIT 1,H` (R204). -/
def execBit1H (s : State) : Result := .next (opBit 1 (.reg .h) s)

/-- `BIT 1,L` (R204). -/
def execBit1L (s : State) : Result := .next (opBit 1 (.reg .l) s)

/-- `BIT 1,(HL)` (R204). -/
def execBit1AtHl (s : State) : Result := .next (opBit 1 .atHl s)

/-- `BIT 1,A` (R204). -/
def execBit1A (s : State) : Result := .next (opBit 1 (.reg .a) s)

/-- `BIT 2,B` (R204). -/
def execBit2B (s : State) : Result := .next (opBit 2 (.reg .b) s)

/-- `BIT 2,C` (R204). -/
def execBit2C (s : State) : Result := .next (opBit 2 (.reg .c) s)

/-- `BIT 2,D` (R204). -/
def execBit2D (s : State) : Result := .next (opBit 2 (.reg .d) s)

/-- `BIT 2,E` (R204). -/
def execBit2E (s : State) : Result := .next (opBit 2 (.reg .e) s)

/-- `BIT 2,H` (R204). -/
def execBit2H (s : State) : Result := .next (opBit 2 (.reg .h) s)

/-- `BIT 2,L` (R204). -/
def execBit2L (s : State) : Result := .next (opBit 2 (.reg .l) s)

/-- `BIT 2,(HL)` (R204). -/
def execBit2AtHl (s : State) : Result := .next (opBit 2 .atHl s)

/-- `BIT 2,A` (R204). -/
def execBit2A (s : State) : Result := .next (opBit 2 (.reg .a) s)

/-- `BIT 3,B` (R204). -/
def execBit3B (s : State) : Result := .next (opBit 3 (.reg .b) s)

/-- `BIT 3,C` (R204). -/
def execBit3C (s : State) : Result := .next (opBit 3 (.reg .c) s)

/-- `BIT 3,D` (R204). -/
def execBit3D (s : State) : Result := .next (opBit 3 (.reg .d) s)

/-- `BIT 3,E` (R204). -/
def execBit3E (s : State) : Result := .next (opBit 3 (.reg .e) s)

/-- `BIT 3,H` (R204). -/
def execBit3H (s : State) : Result := .next (opBit 3 (.reg .h) s)

/-- `BIT 3,L` (R204). -/
def execBit3L (s : State) : Result := .next (opBit 3 (.reg .l) s)

/-- `BIT 3,(HL)` (R204). -/
def execBit3AtHl (s : State) : Result := .next (opBit 3 .atHl s)

/-- `BIT 3,A` (R204). -/
def execBit3A (s : State) : Result := .next (opBit 3 (.reg .a) s)

/-- `BIT 4,B` (R204). -/
def execBit4B (s : State) : Result := .next (opBit 4 (.reg .b) s)

/-- `BIT 4,C` (R204). -/
def execBit4C (s : State) : Result := .next (opBit 4 (.reg .c) s)

/-- `BIT 4,D` (R204). -/
def execBit4D (s : State) : Result := .next (opBit 4 (.reg .d) s)

/-- `BIT 4,E` (R204). -/
def execBit4E (s : State) : Result := .next (opBit 4 (.reg .e) s)

/-- `BIT 4,H` (R204). -/
def execBit4H (s : State) : Result := .next (opBit 4 (.reg .h) s)

/-- `BIT 4,L` (R204). -/
def execBit4L (s : State) : Result := .next (opBit 4 (.reg .l) s)

/-- `BIT 4,(HL)` (R204). -/
def execBit4AtHl (s : State) : Result := .next (opBit 4 .atHl s)

/-- `BIT 4,A` (R204). -/
def execBit4A (s : State) : Result := .next (opBit 4 (.reg .a) s)

/-- `BIT 5,B` (R204). -/
def execBit5B (s : State) : Result := .next (opBit 5 (.reg .b) s)

/-- `BIT 5,C` (R204). -/
def execBit5C (s : State) : Result := .next (opBit 5 (.reg .c) s)

/-- `BIT 5,D` (R204). -/
def execBit5D (s : State) : Result := .next (opBit 5 (.reg .d) s)

/-- `BIT 5,E` (R204). -/
def execBit5E (s : State) : Result := .next (opBit 5 (.reg .e) s)

/-- `BIT 5,H` (R204). -/
def execBit5H (s : State) : Result := .next (opBit 5 (.reg .h) s)

/-- `BIT 5,L` (R204). -/
def execBit5L (s : State) : Result := .next (opBit 5 (.reg .l) s)

/-- `BIT 5,(HL)` (R204). -/
def execBit5AtHl (s : State) : Result := .next (opBit 5 .atHl s)

/-- `BIT 5,A` (R204). -/
def execBit5A (s : State) : Result := .next (opBit 5 (.reg .a) s)

/-- `BIT 6,B` (R204). -/
def execBit6B (s : State) : Result := .next (opBit 6 (.reg .b) s)

/-- `BIT 6,C` (R204). -/
def execBit6C (s : State) : Result := .next (opBit 6 (.reg .c) s)

/-- `BIT 6,D` (R204). -/
def execBit6D (s : State) : Result := .next (opBit 6 (.reg .d) s)

/-- `BIT 6,E` (R204). -/
def execBit6E (s : State) : Result := .next (opBit 6 (.reg .e) s)

/-- `BIT 6,H` (R204). -/
def execBit6H (s : State) : Result := .next (opBit 6 (.reg .h) s)

/-- `BIT 6,L` (R204). -/
def execBit6L (s : State) : Result := .next (opBit 6 (.reg .l) s)

/-- `BIT 6,(HL)` (R204). -/
def execBit6AtHl (s : State) : Result := .next (opBit 6 .atHl s)

/-- `BIT 6,A` (R204). -/
def execBit6A (s : State) : Result := .next (opBit 6 (.reg .a) s)

/-- `BIT 7,B` (R204). -/
def execBit7B (s : State) : Result := .next (opBit 7 (.reg .b) s)

/-- `BIT 7,C` (R204). -/
def execBit7C (s : State) : Result := .next (opBit 7 (.reg .c) s)

/-- `BIT 7,D` (R204). -/
def execBit7D (s : State) : Result := .next (opBit 7 (.reg .d) s)

/-- `BIT 7,E` (R204). -/
def execBit7E (s : State) : Result := .next (opBit 7 (.reg .e) s)

/-- `BIT 7,H` (R204). -/
def execBit7H (s : State) : Result := .next (opBit 7 (.reg .h) s)

/-- `BIT 7,L` (R204). -/
def execBit7L (s : State) : Result := .next (opBit 7 (.reg .l) s)

/-- `BIT 7,(HL)` (R204). -/
def execBit7AtHl (s : State) : Result := .next (opBit 7 .atHl s)

/-- `BIT 7,A` (R204). -/
def execBit7A (s : State) : Result := .next (opBit 7 (.reg .a) s)

/-- `RES 0,B` (R205). -/
def execRes0B (s : State) : Result := .next (opRes 0 (.reg .b) s)

/-- `RES 0,C` (R205). -/
def execRes0C (s : State) : Result := .next (opRes 0 (.reg .c) s)

/-- `RES 0,D` (R205). -/
def execRes0D (s : State) : Result := .next (opRes 0 (.reg .d) s)

/-- `RES 0,E` (R205). -/
def execRes0E (s : State) : Result := .next (opRes 0 (.reg .e) s)

/-- `RES 0,H` (R205). -/
def execRes0H (s : State) : Result := .next (opRes 0 (.reg .h) s)

/-- `RES 0,L` (R205). -/
def execRes0L (s : State) : Result := .next (opRes 0 (.reg .l) s)

/-- `RES 0,(HL)` (R205). -/
def execRes0AtHl (s : State) : Result := .next (opRes 0 .atHl s)

/-- `RES 0,A` (R205). -/
def execRes0A (s : State) : Result := .next (opRes 0 (.reg .a) s)

/-- `RES 1,B` (R205). -/
def execRes1B (s : State) : Result := .next (opRes 1 (.reg .b) s)

/-- `RES 1,C` (R205). -/
def execRes1C (s : State) : Result := .next (opRes 1 (.reg .c) s)

/-- `RES 1,D` (R205). -/
def execRes1D (s : State) : Result := .next (opRes 1 (.reg .d) s)

/-- `RES 1,E` (R205). -/
def execRes1E (s : State) : Result := .next (opRes 1 (.reg .e) s)

/-- `RES 1,H` (R205). -/
def execRes1H (s : State) : Result := .next (opRes 1 (.reg .h) s)

/-- `RES 1,L` (R205). -/
def execRes1L (s : State) : Result := .next (opRes 1 (.reg .l) s)

/-- `RES 1,(HL)` (R205). -/
def execRes1AtHl (s : State) : Result := .next (opRes 1 .atHl s)

/-- `RES 1,A` (R205). -/
def execRes1A (s : State) : Result := .next (opRes 1 (.reg .a) s)

/-- `RES 2,B` (R205). -/
def execRes2B (s : State) : Result := .next (opRes 2 (.reg .b) s)

/-- `RES 2,C` (R205). -/
def execRes2C (s : State) : Result := .next (opRes 2 (.reg .c) s)

/-- `RES 2,D` (R205). -/
def execRes2D (s : State) : Result := .next (opRes 2 (.reg .d) s)

/-- `RES 2,E` (R205). -/
def execRes2E (s : State) : Result := .next (opRes 2 (.reg .e) s)

/-- `RES 2,H` (R205). -/
def execRes2H (s : State) : Result := .next (opRes 2 (.reg .h) s)

/-- `RES 2,L` (R205). -/
def execRes2L (s : State) : Result := .next (opRes 2 (.reg .l) s)

/-- `RES 2,(HL)` (R205). -/
def execRes2AtHl (s : State) : Result := .next (opRes 2 .atHl s)

/-- `RES 2,A` (R205). -/
def execRes2A (s : State) : Result := .next (opRes 2 (.reg .a) s)

/-- `RES 3,B` (R205). -/
def execRes3B (s : State) : Result := .next (opRes 3 (.reg .b) s)

/-- `RES 3,C` (R205). -/
def execRes3C (s : State) : Result := .next (opRes 3 (.reg .c) s)

/-- `RES 3,D` (R205). -/
def execRes3D (s : State) : Result := .next (opRes 3 (.reg .d) s)

/-- `RES 3,E` (R205). -/
def execRes3E (s : State) : Result := .next (opRes 3 (.reg .e) s)

/-- `RES 3,H` (R205). -/
def execRes3H (s : State) : Result := .next (opRes 3 (.reg .h) s)

/-- `RES 3,L` (R205). -/
def execRes3L (s : State) : Result := .next (opRes 3 (.reg .l) s)

/-- `RES 3,(HL)` (R205). -/
def execRes3AtHl (s : State) : Result := .next (opRes 3 .atHl s)

/-- `RES 3,A` (R205). -/
def execRes3A (s : State) : Result := .next (opRes 3 (.reg .a) s)

/-- `RES 4,B` (R205). -/
def execRes4B (s : State) : Result := .next (opRes 4 (.reg .b) s)

/-- `RES 4,C` (R205). -/
def execRes4C (s : State) : Result := .next (opRes 4 (.reg .c) s)

/-- `RES 4,D` (R205). -/
def execRes4D (s : State) : Result := .next (opRes 4 (.reg .d) s)

/-- `RES 4,E` (R205). -/
def execRes4E (s : State) : Result := .next (opRes 4 (.reg .e) s)

/-- `RES 4,H` (R205). -/
def execRes4H (s : State) : Result := .next (opRes 4 (.reg .h) s)

/-- `RES 4,L` (R205). -/
def execRes4L (s : State) : Result := .next (opRes 4 (.reg .l) s)

/-- `RES 4,(HL)` (R205). -/
def execRes4AtHl (s : State) : Result := .next (opRes 4 .atHl s)

/-- `RES 4,A` (R205). -/
def execRes4A (s : State) : Result := .next (opRes 4 (.reg .a) s)

/-- `RES 5,B` (R205). -/
def execRes5B (s : State) : Result := .next (opRes 5 (.reg .b) s)

/-- `RES 5,C` (R205). -/
def execRes5C (s : State) : Result := .next (opRes 5 (.reg .c) s)

/-- `RES 5,D` (R205). -/
def execRes5D (s : State) : Result := .next (opRes 5 (.reg .d) s)

/-- `RES 5,E` (R205). -/
def execRes5E (s : State) : Result := .next (opRes 5 (.reg .e) s)

/-- `RES 5,H` (R205). -/
def execRes5H (s : State) : Result := .next (opRes 5 (.reg .h) s)

/-- `RES 5,L` (R205). -/
def execRes5L (s : State) : Result := .next (opRes 5 (.reg .l) s)

/-- `RES 5,(HL)` (R205). -/
def execRes5AtHl (s : State) : Result := .next (opRes 5 .atHl s)

/-- `RES 5,A` (R205). -/
def execRes5A (s : State) : Result := .next (opRes 5 (.reg .a) s)

/-- `RES 6,B` (R205). -/
def execRes6B (s : State) : Result := .next (opRes 6 (.reg .b) s)

/-- `RES 6,C` (R205). -/
def execRes6C (s : State) : Result := .next (opRes 6 (.reg .c) s)

/-- `RES 6,D` (R205). -/
def execRes6D (s : State) : Result := .next (opRes 6 (.reg .d) s)

/-- `RES 6,E` (R205). -/
def execRes6E (s : State) : Result := .next (opRes 6 (.reg .e) s)

/-- `RES 6,H` (R205). -/
def execRes6H (s : State) : Result := .next (opRes 6 (.reg .h) s)

/-- `RES 6,L` (R205). -/
def execRes6L (s : State) : Result := .next (opRes 6 (.reg .l) s)

/-- `RES 6,(HL)` (R205). -/
def execRes6AtHl (s : State) : Result := .next (opRes 6 .atHl s)

/-- `RES 6,A` (R205). -/
def execRes6A (s : State) : Result := .next (opRes 6 (.reg .a) s)

/-- `RES 7,B` (R205). -/
def execRes7B (s : State) : Result := .next (opRes 7 (.reg .b) s)

/-- `RES 7,C` (R205). -/
def execRes7C (s : State) : Result := .next (opRes 7 (.reg .c) s)

/-- `RES 7,D` (R205). -/
def execRes7D (s : State) : Result := .next (opRes 7 (.reg .d) s)

/-- `RES 7,E` (R205). -/
def execRes7E (s : State) : Result := .next (opRes 7 (.reg .e) s)

/-- `RES 7,H` (R205). -/
def execRes7H (s : State) : Result := .next (opRes 7 (.reg .h) s)

/-- `RES 7,L` (R205). -/
def execRes7L (s : State) : Result := .next (opRes 7 (.reg .l) s)

/-- `RES 7,(HL)` (R205). -/
def execRes7AtHl (s : State) : Result := .next (opRes 7 .atHl s)

/-- `RES 7,A` (R205). -/
def execRes7A (s : State) : Result := .next (opRes 7 (.reg .a) s)

/-- `SET 0,B` (R206). -/
def execSet0B (s : State) : Result := .next (opSet 0 (.reg .b) s)

/-- `SET 0,C` (R206). -/
def execSet0C (s : State) : Result := .next (opSet 0 (.reg .c) s)

/-- `SET 0,D` (R206). -/
def execSet0D (s : State) : Result := .next (opSet 0 (.reg .d) s)

/-- `SET 0,E` (R206). -/
def execSet0E (s : State) : Result := .next (opSet 0 (.reg .e) s)

/-- `SET 0,H` (R206). -/
def execSet0H (s : State) : Result := .next (opSet 0 (.reg .h) s)

/-- `SET 0,L` (R206). -/
def execSet0L (s : State) : Result := .next (opSet 0 (.reg .l) s)

/-- `SET 0,(HL)` (R206). -/
def execSet0AtHl (s : State) : Result := .next (opSet 0 .atHl s)

/-- `SET 0,A` (R206). -/
def execSet0A (s : State) : Result := .next (opSet 0 (.reg .a) s)

/-- `SET 1,B` (R206). -/
def execSet1B (s : State) : Result := .next (opSet 1 (.reg .b) s)

/-- `SET 1,C` (R206). -/
def execSet1C (s : State) : Result := .next (opSet 1 (.reg .c) s)

/-- `SET 1,D` (R206). -/
def execSet1D (s : State) : Result := .next (opSet 1 (.reg .d) s)

/-- `SET 1,E` (R206). -/
def execSet1E (s : State) : Result := .next (opSet 1 (.reg .e) s)

/-- `SET 1,H` (R206). -/
def execSet1H (s : State) : Result := .next (opSet 1 (.reg .h) s)

/-- `SET 1,L` (R206). -/
def execSet1L (s : State) : Result := .next (opSet 1 (.reg .l) s)

/-- `SET 1,(HL)` (R206). -/
def execSet1AtHl (s : State) : Result := .next (opSet 1 .atHl s)

/-- `SET 1,A` (R206). -/
def execSet1A (s : State) : Result := .next (opSet 1 (.reg .a) s)

/-- `SET 2,B` (R206). -/
def execSet2B (s : State) : Result := .next (opSet 2 (.reg .b) s)

/-- `SET 2,C` (R206). -/
def execSet2C (s : State) : Result := .next (opSet 2 (.reg .c) s)

/-- `SET 2,D` (R206). -/
def execSet2D (s : State) : Result := .next (opSet 2 (.reg .d) s)

/-- `SET 2,E` (R206). -/
def execSet2E (s : State) : Result := .next (opSet 2 (.reg .e) s)

/-- `SET 2,H` (R206). -/
def execSet2H (s : State) : Result := .next (opSet 2 (.reg .h) s)

/-- `SET 2,L` (R206). -/
def execSet2L (s : State) : Result := .next (opSet 2 (.reg .l) s)

/-- `SET 2,(HL)` (R206). -/
def execSet2AtHl (s : State) : Result := .next (opSet 2 .atHl s)

/-- `SET 2,A` (R206). -/
def execSet2A (s : State) : Result := .next (opSet 2 (.reg .a) s)

/-- `SET 3,B` (R206). -/
def execSet3B (s : State) : Result := .next (opSet 3 (.reg .b) s)

/-- `SET 3,C` (R206). -/
def execSet3C (s : State) : Result := .next (opSet 3 (.reg .c) s)

/-- `SET 3,D` (R206). -/
def execSet3D (s : State) : Result := .next (opSet 3 (.reg .d) s)

/-- `SET 3,E` (R206). -/
def execSet3E (s : State) : Result := .next (opSet 3 (.reg .e) s)

/-- `SET 3,H` (R206). -/
def execSet3H (s : State) : Result := .next (opSet 3 (.reg .h) s)

/-- `SET 3,L` (R206). -/
def execSet3L (s : State) : Result := .next (opSet 3 (.reg .l) s)

/-- `SET 3,(HL)` (R206). -/
def execSet3AtHl (s : State) : Result := .next (opSet 3 .atHl s)

/-- `SET 3,A` (R206). -/
def execSet3A (s : State) : Result := .next (opSet 3 (.reg .a) s)

/-- `SET 4,B` (R206). -/
def execSet4B (s : State) : Result := .next (opSet 4 (.reg .b) s)

/-- `SET 4,C` (R206). -/
def execSet4C (s : State) : Result := .next (opSet 4 (.reg .c) s)

/-- `SET 4,D` (R206). -/
def execSet4D (s : State) : Result := .next (opSet 4 (.reg .d) s)

/-- `SET 4,E` (R206). -/
def execSet4E (s : State) : Result := .next (opSet 4 (.reg .e) s)

/-- `SET 4,H` (R206). -/
def execSet4H (s : State) : Result := .next (opSet 4 (.reg .h) s)

/-- `SET 4,L` (R206). -/
def execSet4L (s : State) : Result := .next (opSet 4 (.reg .l) s)

/-- `SET 4,(HL)` (R206). -/
def execSet4AtHl (s : State) : Result := .next (opSet 4 .atHl s)

/-- `SET 4,A` (R206). -/
def execSet4A (s : State) : Result := .next (opSet 4 (.reg .a) s)

/-- `SET 5,B` (R206). -/
def execSet5B (s : State) : Result := .next (opSet 5 (.reg .b) s)

/-- `SET 5,C` (R206). -/
def execSet5C (s : State) : Result := .next (opSet 5 (.reg .c) s)

/-- `SET 5,D` (R206). -/
def execSet5D (s : State) : Result := .next (opSet 5 (.reg .d) s)

/-- `SET 5,E` (R206). -/
def execSet5E (s : State) : Result := .next (opSet 5 (.reg .e) s)

/-- `SET 5,H` (R206). -/
def execSet5H (s : State) : Result := .next (opSet 5 (.reg .h) s)

/-- `SET 5,L` (R206). -/
def execSet5L (s : State) : Result := .next (opSet 5 (.reg .l) s)

/-- `SET 5,(HL)` (R206). -/
def execSet5AtHl (s : State) : Result := .next (opSet 5 .atHl s)

/-- `SET 5,A` (R206). -/
def execSet5A (s : State) : Result := .next (opSet 5 (.reg .a) s)

/-- `SET 6,B` (R206). -/
def execSet6B (s : State) : Result := .next (opSet 6 (.reg .b) s)

/-- `SET 6,C` (R206). -/
def execSet6C (s : State) : Result := .next (opSet 6 (.reg .c) s)

/-- `SET 6,D` (R206). -/
def execSet6D (s : State) : Result := .next (opSet 6 (.reg .d) s)

/-- `SET 6,E` (R206). -/
def execSet6E (s : State) : Result := .next (opSet 6 (.reg .e) s)

/-- `SET 6,H` (R206). -/
def execSet6H (s : State) : Result := .next (opSet 6 (.reg .h) s)

/-- `SET 6,L` (R206). -/
def execSet6L (s : State) : Result := .next (opSet 6 (.reg .l) s)

/-- `SET 6,(HL)` (R206). -/
def execSet6AtHl (s : State) : Result := .next (opSet 6 .atHl s)

/-- `SET 6,A` (R206). -/
def execSet6A (s : State) : Result := .next (opSet 6 (.reg .a) s)

/-- `SET 7,B` (R206). -/
def execSet7B (s : State) : Result := .next (opSet 7 (.reg .b) s)

/-- `SET 7,C` (R206). -/
def execSet7C (s : State) : Result := .next (opSet 7 (.reg .c) s)

/-- `SET 7,D` (R206). -/
def execSet7D (s : State) : Result := .next (opSet 7 (.reg .d) s)

/-- `SET 7,E` (R206). -/
def execSet7E (s : State) : Result := .next (opSet 7 (.reg .e) s)

/-- `SET 7,H` (R206). -/
def execSet7H (s : State) : Result := .next (opSet 7 (.reg .h) s)

/-- `SET 7,L` (R206). -/
def execSet7L (s : State) : Result := .next (opSet 7 (.reg .l) s)

/-- `SET 7,(HL)` (R206). -/
def execSet7AtHl (s : State) : Result := .next (opSet 7 .atHl s)

/-- `SET 7,A` (R206). -/
def execSet7A (s : State) : Result := .next (opSet 7 (.reg .a) s)

end Sys2Proof.Machine
end

