-- ==== Sys2Proof/Machine/CbTable.lean ====
section
/-! DEFINITION. The marker of primary slot 0xCB (spec/30_encoding.md R86): fetch a second byte the same way
and run its slot of the CB table, here by the fields of R90. R86 says 0xCB names no instruction of its own and
the decoder never answers the marker: that its row has a constructor, with this procedure of R82 from the
state after the first byte as its meaning, is the model's choice (DESIGN CHOICE, log entry 10). -/

namespace Sys2Proof.Machine

/-! ### Shared operations -/

/-- Runs slot op2 of the CB table by its fields (R90). -/
def opCbSlot (op2 : Byte) (s : State) : State :=
  match fieldX op2 with
  | 0 => opShift (shiftOfCode (fieldY op2)) (opndOfCode (fieldZ op2)) s
  | 1 => opBit (indexY op2) (opndOfCode (fieldZ op2)) s
  | 2 => opRes (indexY op2) (opndOfCode (fieldZ op2)) s
  | _ => opSet (indexY op2) (opndOfCode (fieldZ op2)) s

/-- R82 from the byte after 0xCB on: `Fetch8()`, the lookup, and the execution of the slot or, for a
slot the build leaves without a descriptor (R89), the exception (R262). -/
def opCbMarker (s : State) : State :=
  if lacksDescriptor s.config (.cb (s.load s.pc)) then
    raiseUnimplemented (slotBytes (.cb (s.load s.pc))) (s.advance 1)
  else opCbSlot (s.load s.pc) (s.advance 1)

/-! ### The meanings -/

/-- The row of slot 0xCB, as the model chooses to run it (R82, R86; DESIGN CHOICE, log entry 10). -/
def execPrefixCb (s : State) : Result := .next (opCbMarker s)

end Sys2Proof.Machine
end

