-- ==== Sys2Proof/Machine/Control.lean ====
section
/-! DEFINITION. The control-flow family (spec/46_control.md R220 to R231). PC holds next when a meaning runs
(R85), so it is the return address and the base of a displacement (R220, 90_conflicts C1). -/

namespace Sys2Proof.Machine

/-! ### Shared operations -/

/-- `JP cc,a16` (R222). -/
def opJpIf (cc : Cond) (nn : Word) (s : State) : State :=
  if condHolds cc s.flags then s.setPc nn else s

/-- `JR e8` (R224): PC plus the sign-extended displacement, mod 65536. -/
def opJr (e8 : Byte) (s : State) : State := s.setPc (s.pc + sext16 e8)

/-- `JR cc,e8` (R225). -/
def opJrIf (cc : Cond) (e8 : Byte) (s : State) : State :=
  if condHolds cc s.flags then opJr e8 s else s

/-- `CALL a16` and `RST t` (R226, R231): push next, then jump. -/
def opCall (nn : Word) (s : State) : State := (s.push16 s.pc).setPc nn

/-- `CALL cc,a16` (R227). -/
def opCallIf (cc : Cond) (nn : Word) (s : State) : State :=
  if condHolds cc s.flags then opCall nn s else s

/-- `RET` (R228): PC <- Pop16(). -/
def opRet (s : State) : State := (s.drop16).setPc s.top16

/-- `RET cc` (R229). -/
def opRetIf (cc : Cond) (s : State) : State :=
  if condHolds cc s.flags then opRet s else s

/-! ### The meanings -/

/-- `JR e8` (R224). -/
def execJrE8 (n : Byte) (s : State) : Result := .next (opJr n s)

/-- `JR NZ,e8` (R225). -/
def execJrNzE8 (n : Byte) (s : State) : Result := .next (opJrIf .nz n s)

/-- `JR Z,e8` (R225). -/
def execJrZE8 (n : Byte) (s : State) : Result := .next (opJrIf .z n s)

/-- `JR NC,e8` (R225). -/
def execJrNcE8 (n : Byte) (s : State) : Result := .next (opJrIf .nc n s)

/-- `JR C,e8` (R225). -/
def execJrCE8 (n : Byte) (s : State) : Result := .next (opJrIf .c n s)

/-- `RET NZ` (R229). -/
def execRetNz (s : State) : Result := .next (opRetIf .nz s)

/-- `JP NZ,a16` (R222). -/
def execJpNzA16 (nn : Word) (s : State) : Result := .next (opJpIf .nz nn s)

/-- `JP a16` (R221). -/
def execJpA16 (nn : Word) (s : State) : Result := .next (s.setPc nn)

/-- `CALL NZ,a16` (R227). -/
def execCallNzA16 (nn : Word) (s : State) : Result := .next (opCallIf .nz nn s)

/-- `RST 00H` (R231). -/
def execRst00 (s : State) : Result := .next (opCall (rstTarget 0) s)

/-- `RET Z` (R229). -/
def execRetZ (s : State) : Result := .next (opRetIf .z s)

/-- `RET` (R228). -/
def execRet (s : State) : Result := .next (opRet s)

/-- `JP Z,a16` (R222). -/
def execJpZA16 (nn : Word) (s : State) : Result := .next (opJpIf .z nn s)

/-- `CALL Z,a16` (R227). -/
def execCallZA16 (nn : Word) (s : State) : Result := .next (opCallIf .z nn s)

/-- `CALL a16` (R226). -/
def execCallA16 (nn : Word) (s : State) : Result := .next (opCall nn s)

/-- `RST 08H` (R231). -/
def execRst08 (s : State) : Result := .next (opCall (rstTarget 1) s)

/-- `RET NC` (R229). -/
def execRetNc (s : State) : Result := .next (opRetIf .nc s)

/-- `JP NC,a16` (R222). -/
def execJpNcA16 (nn : Word) (s : State) : Result := .next (opJpIf .nc nn s)

/-- `CALL NC,a16` (R227). -/
def execCallNcA16 (nn : Word) (s : State) : Result := .next (opCallIf .nc nn s)

/-- `RST 10H` (R231). -/
def execRst10 (s : State) : Result := .next (opCall (rstTarget 2) s)

/-- `RET C` (R229). -/
def execRetC (s : State) : Result := .next (opRetIf .c s)

/-- `RETI` (R230). -/
def execReti (s : State) : Result := .next { opRet s with ime := true }

/-- `JP C,a16` (R222). -/
def execJpCA16 (nn : Word) (s : State) : Result := .next (opJpIf .c nn s)

/-- `CALL C,a16` (R227). -/
def execCallCA16 (nn : Word) (s : State) : Result := .next (opCallIf .c nn s)

/-- `RST 18H` (R231). -/
def execRst18 (s : State) : Result := .next (opCall (rstTarget 3) s)

/-- `RST 20H` (R231). -/
def execRst20 (s : State) : Result := .next (opCall (rstTarget 4) s)

/-- `JP HL` (R223). -/
def execJpHl (s : State) : Result := .next (s.setPc (s.pair .hl))

/-- `RST 28H` (R231). -/
def execRst28 (s : State) : Result := .next (opCall (rstTarget 5) s)

/-- `RST 30H` (R231). -/
def execRst30 (s : State) : Result := .next (opCall (rstTarget 6) s)

/-- `RST 38H` (R231). -/
def execRst38 (s : State) : Result := .next (opCall (rstTarget 7) s)

end Sys2Proof.Machine
end

