-- ==== Sys2Proof/Machine/Load.lean ====
section
/-! DEFINITION. The load family (spec/41_load.md R100 to R121). No load changes a flag (R100); every source is
read before a destination is written (R101). `exec` runs a meaning with PC at next (R85). -/

namespace Sys2Proof.Machine

/-! ### Shared operations -/

/-- `LD dst,src` between 8-bit operands (R102, R104, R105). -/
def opLd (dst src : Opnd8) (s : State) : State := s.write8 dst (s.read8 src)

/-- `LD dst,d8` (R103, R106). -/
def opLdImm (dst : Opnd8) (n : Byte) (s : State) : State := s.write8 dst n

/-- A from the byte at `addr` (R107, R109, R111, R113). -/
def opLoadA (addr : Word) (s : State) : State := s.setReg8 .a (s.load addr)

/-- A to the byte at `addr` (R108, R110, R112, R114). -/
def opStoreA (addr : Word) (s : State) : State := s.store addr s.a

/-- A from the byte at HL, then HL plus `delta` mod 65536 (R116, R118); the access uses the old HL. -/
def opLoadAThenHl (delta : Word) (s : State) : State :=
  (opLoadA (s.pair .hl) s).setPair .hl (s.pair .hl + delta)

/-- A to the byte at HL, then HL plus `delta` mod 65536 (R115, R117). -/
def opStoreAThenHl (delta : Word) (s : State) : State :=
  (opStoreA (s.pair .hl) s).setPair .hl (s.pair .hl + delta)

/-! ### The meanings -/

/-- `LD BC,d16` (R119). -/
def execLdBcD16 (nn : Word) (s : State) : Result := .next (s.write16 .bc nn)

/-- `LD (BC),A` (R108). -/
def execLdAtBcA (s : State) : Result := .next (opStoreA (s.pair .bc) s)

/-- `LD B,d8` (R103). -/
def execLdBD8 (n : Byte) (s : State) : Result := .next (opLdImm (.reg .b) n s)

/-- `LD (a16),SP` (R120). -/
def execLdAtA16Sp (nn : Word) (s : State) : Result := .next (s.store16 nn s.sp)

/-- `LD A,(BC)` (R107). -/
def execLdAAtBc (s : State) : Result := .next (opLoadA (s.pair .bc) s)

/-- `LD C,d8` (R103). -/
def execLdCD8 (n : Byte) (s : State) : Result := .next (opLdImm (.reg .c) n s)

/-- `LD DE,d16` (R119). -/
def execLdDeD16 (nn : Word) (s : State) : Result := .next (s.write16 .de nn)

/-- `LD (DE),A` (R108). -/
def execLdAtDeA (s : State) : Result := .next (opStoreA (s.pair .de) s)

/-- `LD D,d8` (R103). -/
def execLdDD8 (n : Byte) (s : State) : Result := .next (opLdImm (.reg .d) n s)

/-- `LD A,(DE)` (R107). -/
def execLdAAtDe (s : State) : Result := .next (opLoadA (s.pair .de) s)

/-- `LD E,d8` (R103). -/
def execLdED8 (n : Byte) (s : State) : Result := .next (opLdImm (.reg .e) n s)

/-- `LD HL,d16` (R119). -/
def execLdHlD16 (nn : Word) (s : State) : Result := .next (s.write16 .hl nn)

/-- `LD (HL+),A` (R115). -/
def execLdAtHlIncA (s : State) : Result := .next (opStoreAThenHl 1 s)

/-- `LD H,d8` (R103). -/
def execLdHD8 (n : Byte) (s : State) : Result := .next (opLdImm (.reg .h) n s)

/-- `LD A,(HL+)` (R116). -/
def execLdAAtHlInc (s : State) : Result := .next (opLoadAThenHl 1 s)

/-- `LD L,d8` (R103). -/
def execLdLD8 (n : Byte) (s : State) : Result := .next (opLdImm (.reg .l) n s)

/-- `LD SP,d16` (R119). -/
def execLdSpD16 (nn : Word) (s : State) : Result := .next (s.write16 .sp nn)

/-- `LD (HL-),A` (R117). -/
def execLdAtHlDecA (s : State) : Result := .next (opStoreAThenHl (-1) s)

/-- `LD (HL),d8` (R106). -/
def execLdAtHlD8 (n : Byte) (s : State) : Result := .next (opLdImm .atHl n s)

/-- `LD A,(HL-)` (R118). -/
def execLdAAtHlDec (s : State) : Result := .next (opLoadAThenHl (-1) s)

/-- `LD A,d8` (R103). -/
def execLdAD8 (n : Byte) (s : State) : Result := .next (opLdImm (.reg .a) n s)

/-- `LD B,B` (R102). -/
def execLdBB (s : State) : Result := .next (opLd (.reg .b) (.reg .b) s)

/-- `LD B,C` (R102). -/
def execLdBC (s : State) : Result := .next (opLd (.reg .b) (.reg .c) s)

/-- `LD B,D` (R102). -/
def execLdBD (s : State) : Result := .next (opLd (.reg .b) (.reg .d) s)

/-- `LD B,E` (R102). -/
def execLdBE (s : State) : Result := .next (opLd (.reg .b) (.reg .e) s)

/-- `LD B,H` (R102). -/
def execLdBH (s : State) : Result := .next (opLd (.reg .b) (.reg .h) s)

/-- `LD B,L` (R102). -/
def execLdBL (s : State) : Result := .next (opLd (.reg .b) (.reg .l) s)

/-- `LD B,(HL)` (R104). -/
def execLdBAtHl (s : State) : Result := .next (opLd (.reg .b) .atHl s)

/-- `LD B,A` (R102). -/
def execLdBA (s : State) : Result := .next (opLd (.reg .b) (.reg .a) s)

/-- `LD C,B` (R102). -/
def execLdCB (s : State) : Result := .next (opLd (.reg .c) (.reg .b) s)

/-- `LD C,C` (R102). -/
def execLdCC (s : State) : Result := .next (opLd (.reg .c) (.reg .c) s)

/-- `LD C,D` (R102). -/
def execLdCD (s : State) : Result := .next (opLd (.reg .c) (.reg .d) s)

/-- `LD C,E` (R102). -/
def execLdCE (s : State) : Result := .next (opLd (.reg .c) (.reg .e) s)

/-- `LD C,H` (R102). -/
def execLdCH (s : State) : Result := .next (opLd (.reg .c) (.reg .h) s)

/-- `LD C,L` (R102). -/
def execLdCL (s : State) : Result := .next (opLd (.reg .c) (.reg .l) s)

/-- `LD C,(HL)` (R104). -/
def execLdCAtHl (s : State) : Result := .next (opLd (.reg .c) .atHl s)

/-- `LD C,A` (R102). -/
def execLdCA (s : State) : Result := .next (opLd (.reg .c) (.reg .a) s)

/-- `LD D,B` (R102). -/
def execLdDB (s : State) : Result := .next (opLd (.reg .d) (.reg .b) s)

/-- `LD D,C` (R102). -/
def execLdDC (s : State) : Result := .next (opLd (.reg .d) (.reg .c) s)

/-- `LD D,D` (R102). -/
def execLdDD (s : State) : Result := .next (opLd (.reg .d) (.reg .d) s)

/-- `LD D,E` (R102). -/
def execLdDE (s : State) : Result := .next (opLd (.reg .d) (.reg .e) s)

/-- `LD D,H` (R102). -/
def execLdDH (s : State) : Result := .next (opLd (.reg .d) (.reg .h) s)

/-- `LD D,L` (R102). -/
def execLdDL (s : State) : Result := .next (opLd (.reg .d) (.reg .l) s)

/-- `LD D,(HL)` (R104). -/
def execLdDAtHl (s : State) : Result := .next (opLd (.reg .d) .atHl s)

/-- `LD D,A` (R102). -/
def execLdDA (s : State) : Result := .next (opLd (.reg .d) (.reg .a) s)

/-- `LD E,B` (R102). -/
def execLdEB (s : State) : Result := .next (opLd (.reg .e) (.reg .b) s)

/-- `LD E,C` (R102). -/
def execLdEC (s : State) : Result := .next (opLd (.reg .e) (.reg .c) s)

/-- `LD E,D` (R102). -/
def execLdED (s : State) : Result := .next (opLd (.reg .e) (.reg .d) s)

/-- `LD E,E` (R102). -/
def execLdEE (s : State) : Result := .next (opLd (.reg .e) (.reg .e) s)

/-- `LD E,H` (R102). -/
def execLdEH (s : State) : Result := .next (opLd (.reg .e) (.reg .h) s)

/-- `LD E,L` (R102). -/
def execLdEL (s : State) : Result := .next (opLd (.reg .e) (.reg .l) s)

/-- `LD E,(HL)` (R104). -/
def execLdEAtHl (s : State) : Result := .next (opLd (.reg .e) .atHl s)

/-- `LD E,A` (R102). -/
def execLdEA (s : State) : Result := .next (opLd (.reg .e) (.reg .a) s)

/-- `LD H,B` (R102). -/
def execLdHB (s : State) : Result := .next (opLd (.reg .h) (.reg .b) s)

/-- `LD H,C` (R102). -/
def execLdHC (s : State) : Result := .next (opLd (.reg .h) (.reg .c) s)

/-- `LD H,D` (R102). -/
def execLdHD (s : State) : Result := .next (opLd (.reg .h) (.reg .d) s)

/-- `LD H,E` (R102). -/
def execLdHE (s : State) : Result := .next (opLd (.reg .h) (.reg .e) s)

/-- `LD H,H` (R102). -/
def execLdHH (s : State) : Result := .next (opLd (.reg .h) (.reg .h) s)

/-- `LD H,L` (R102). -/
def execLdHL (s : State) : Result := .next (opLd (.reg .h) (.reg .l) s)

/-- `LD H,(HL)` (R104). -/
def execLdHAtHl (s : State) : Result := .next (opLd (.reg .h) .atHl s)

/-- `LD H,A` (R102). -/
def execLdHA (s : State) : Result := .next (opLd (.reg .h) (.reg .a) s)

/-- `LD L,B` (R102). -/
def execLdLB (s : State) : Result := .next (opLd (.reg .l) (.reg .b) s)

/-- `LD L,C` (R102). -/
def execLdLC (s : State) : Result := .next (opLd (.reg .l) (.reg .c) s)

/-- `LD L,D` (R102). -/
def execLdLD (s : State) : Result := .next (opLd (.reg .l) (.reg .d) s)

/-- `LD L,E` (R102). -/
def execLdLE (s : State) : Result := .next (opLd (.reg .l) (.reg .e) s)

/-- `LD L,H` (R102). -/
def execLdLH (s : State) : Result := .next (opLd (.reg .l) (.reg .h) s)

/-- `LD L,L` (R102). -/
def execLdLL (s : State) : Result := .next (opLd (.reg .l) (.reg .l) s)

/-- `LD L,(HL)` (R104). -/
def execLdLAtHl (s : State) : Result := .next (opLd (.reg .l) .atHl s)

/-- `LD L,A` (R102). -/
def execLdLA (s : State) : Result := .next (opLd (.reg .l) (.reg .a) s)

/-- `LD (HL),B` (R105). -/
def execLdAtHlB (s : State) : Result := .next (opLd .atHl (.reg .b) s)

/-- `LD (HL),C` (R105). -/
def execLdAtHlC (s : State) : Result := .next (opLd .atHl (.reg .c) s)

/-- `LD (HL),D` (R105). -/
def execLdAtHlD (s : State) : Result := .next (opLd .atHl (.reg .d) s)

/-- `LD (HL),E` (R105). -/
def execLdAtHlE (s : State) : Result := .next (opLd .atHl (.reg .e) s)

/-- `LD (HL),H` (R105). -/
def execLdAtHlH (s : State) : Result := .next (opLd .atHl (.reg .h) s)

/-- `LD (HL),L` (R105). -/
def execLdAtHlL (s : State) : Result := .next (opLd .atHl (.reg .l) s)

/-- `LD (HL),A` (R105). -/
def execLdAtHlA (s : State) : Result := .next (opLd .atHl (.reg .a) s)

/-- `LD A,B` (R102). -/
def execLdAB (s : State) : Result := .next (opLd (.reg .a) (.reg .b) s)

/-- `LD A,C` (R102). -/
def execLdAC (s : State) : Result := .next (opLd (.reg .a) (.reg .c) s)

/-- `LD A,D` (R102). -/
def execLdAD (s : State) : Result := .next (opLd (.reg .a) (.reg .d) s)

/-- `LD A,E` (R102). -/
def execLdAE (s : State) : Result := .next (opLd (.reg .a) (.reg .e) s)

/-- `LD A,H` (R102). -/
def execLdAH (s : State) : Result := .next (opLd (.reg .a) (.reg .h) s)

/-- `LD A,L` (R102). -/
def execLdAL (s : State) : Result := .next (opLd (.reg .a) (.reg .l) s)

/-- `LD A,(HL)` (R104). -/
def execLdAAtHl (s : State) : Result := .next (opLd (.reg .a) .atHl s)

/-- `LD A,A` (R102). -/
def execLdAA (s : State) : Result := .next (opLd (.reg .a) (.reg .a) s)

/-- `LDH (a8),A` (R112). -/
def execLdhAtA8A (n : Byte) (s : State) : Result := .next (opStoreA (highPage n) s)

/-- `LD (C),A` (R114). -/
def execLdAtCA (s : State) : Result := .next (opStoreA (highPage s.c) s)

/-- `LD (a16),A` (R110). -/
def execLdAtA16A (nn : Word) (s : State) : Result := .next (opStoreA nn s)

/-- `LDH A,(a8)` (R111). -/
def execLdhAAtA8 (n : Byte) (s : State) : Result := .next (opLoadA (highPage n) s)

/-- `LD A,(C)` (R113). -/
def execLdAAtC (s : State) : Result := .next (opLoadA (highPage s.c) s)

/-- `LD SP,HL` (R121). -/
def execLdSpHl (s : State) : Result := .next (s.setSp (s.pair .hl))

/-- `LD A,(a16)` (R109). -/
def execLdAAtA16 (nn : Word) (s : State) : Result := .next (opLoadA nn s)

end Sys2Proof.Machine
end

