-- ==== Sys2Proof/Machine/Misc.lean ====
section
/-! DEFINITION. The miscellaneous family (spec/47_misc.md R240 to R248) and the 11 unimplemented slots
(spec/30_encoding.md R89, spec/60_exceptions.md R260 to R262). -/

namespace Sys2Proof.Machine

/-! ### The meanings -/

/-- `NOP` (R240). -/
def execNop (s : State) : Result := .next s

/-- `STOP d8` (R244). -/
def execStop (_n : Byte) (s : State) : Result := .next { s with stopped := true }

/-- `DAA` (R248). -/
def execDaa (s : State) : Result :=
  .next { s with a := daaResult s.a s.flags, flags := daaFlags s.a s.flags }

/-- `CPL` (R247). -/
def execCpl (s : State) : Result :=
  .next { s with a := ~~~s.a, flags := { s.flags with n := true, h := true } }

/-- `SCF` (R246). -/
def execScf (s : State) : Result :=
  .next (s.setFlags { s.flags with n := false, h := false, c := true })

/-- `CCF` (R245). -/
def execCcf (s : State) : Result :=
  .next (s.setFlags { s.flags with n := false, h := false, c := !s.flags.c })

/-- `HALT` (R243). -/
def execHalt (s : State) : Result := .next { s with halted := true }

/-- `DI` (R241). -/
def execDi (s : State) : Result := .next { s with ime := false }

/-- `EI` (R242). -/
def execEi (s : State) : Result := .next { s with ime := true }

/-- Unimplemented slot 0xD3 (R89, R262). -/
def execUnimplementedD3 (s : State) : Result := .next (raiseUnimplemented [0xD3] s)

/-- Unimplemented slot 0xDB (R89, R262). -/
def execUnimplementedDB (s : State) : Result := .next (raiseUnimplemented [0xDB] s)

/-- Unimplemented slot 0xDD (R89, R262). -/
def execUnimplementedDD (s : State) : Result := .next (raiseUnimplemented [0xDD] s)

/-- Unimplemented slot 0xE3 (R89, R262). -/
def execUnimplementedE3 (s : State) : Result := .next (raiseUnimplemented [0xE3] s)

/-- Unimplemented slot 0xE4 (R89, R262). -/
def execUnimplementedE4 (s : State) : Result := .next (raiseUnimplemented [0xE4] s)

/-- Unimplemented slot 0xEB (R89, R262). -/
def execUnimplementedEB (s : State) : Result := .next (raiseUnimplemented [0xEB] s)

/-- Unimplemented slot 0xEC (R89, R262). -/
def execUnimplementedEC (s : State) : Result := .next (raiseUnimplemented [0xEC] s)

/-- Unimplemented slot 0xED (R89, R262). -/
def execUnimplementedED (s : State) : Result := .next (raiseUnimplemented [0xED] s)

/-- Unimplemented slot 0xF4 (R89, R262). -/
def execUnimplementedF4 (s : State) : Result := .next (raiseUnimplemented [0xF4] s)

/-- Unimplemented slot 0xFC (R89, R262). -/
def execUnimplementedFC (s : State) : Result := .next (raiseUnimplemented [0xFC] s)

/-- Unimplemented slot 0xFD (R89, R262). -/
def execUnimplementedFD (s : State) : Result := .next (raiseUnimplemented [0xFD] s)

end Sys2Proof.Machine
end

