-- ==== Sys2Proof/Machine/Stack.lean ====
section
/-! DEFINITION. The stack family (spec/44_stack.md R180 to R184). -/

namespace Sys2Proof.Machine

/-! ### The meanings -/

/-- `POP BC` (R183). -/
def execPopBc (s : State) : Result := .next ((s.drop16).setPair .bc s.top16)

/-- `PUSH BC` (R182). -/
def execPushBc (s : State) : Result := .next (s.push16 (s.pair .bc))

/-- `POP DE` (R183). -/
def execPopDe (s : State) : Result := .next ((s.drop16).setPair .de s.top16)

/-- `PUSH DE` (R182). -/
def execPushDe (s : State) : Result := .next (s.push16 (s.pair .de))

/-- `POP HL` (R183). -/
def execPopHl (s : State) : Result := .next ((s.drop16).setPair .hl s.top16)

/-- `PUSH HL` (R182). -/
def execPushHl (s : State) : Result := .next (s.push16 (s.pair .hl))

/-- `POP AF` (R183). -/
def execPopAf (s : State) : Result := .next ((s.drop16).setPair .af s.top16)

/-- `PUSH AF` (R182). -/
def execPushAf (s : State) : Result := .next (s.push16 (s.pair .af))

end Sys2Proof.Machine
end

