-- ==== Sys2Proof/Machine/Step.lean ====
section
/-! DEFINITION. One step (spec/30_encoding.md R82): the refusal of a faulted state, the fetch and decode, the
exception for a slot without a descriptor, and the execution with PC at next. -/

namespace Sys2Proof.Machine

/-- `step()` (R82). A state whose `fault` is set returns the same record again (R263); that this is the
outcome `fault`, with no next state, is the model's choice (DESIGN CHOICE, log entry 1). Otherwise the
instruction at PC is fetched and decoded; a slot the build leaves without a descriptor raises the
exception after the fetch of its opcode bytes (R89, R262); any other runs with PC past its bytes (R85). -/
def step (s : State) : Host.Outcome State Fault Refusal :=
  match s.fault with
  | some record => .fault record
  | none =>
    match fetchDecode s with
    | .rejected why => .refused (.undecodable why)
    | .ok d =>
      if lacksDescriptor s.config d.slot then
        .next (raiseUnimplemented (slotBytes d.slot) (s.advance (slotBytes d.slot).length))
      else exec d.instr (s.advance d.len)

/-- The state with the bytes of a row's word (log entry 7), followed by zero bytes up to three in all,
at PC, PC + 1 and PC + 2: where the next step fetches. Nothing else changes. -/
def State.withFetchWord (s : State) (nbits w : Nat) : State :=
  let bytes := tableWindow nbits w
  ((s.store s.pc (bytes.getD 0 0x00)).store (s.pc + 1) (bytes.getD 1 0x00)).store (s.pc + 2)
    (bytes.getD 2 0x00)

end Sys2Proof.Machine
end

