-- ==== Sys2Proof/Machine/Launch.lean ====
section
/-! DEFINITION. What the host may do around the steps (spec/60_exceptions.md R272): the reset action
(spec/70_reset_and_hazards.md R280), a launch with the preset `INIT_STATE` (spec/00_scope.md R6, R281), and
resuming after a latch. None of these is a move of `step`. -/

namespace Sys2Proof.Machine

/-- `INIT_STATE` (R6, R281): a value for any subset of the registers, the flags, SP, PC, IME and the
latches, and all of memory. -/
structure InitState where
  a : Option Byte
  b : Option Byte
  c : Option Byte
  d : Option Byte
  e : Option Byte
  h : Option Byte
  l : Option Byte
  zFlag : Option Bool
  nFlag : Option Bool
  hFlag : Option Bool
  cFlag : Option Bool
  sp : Option Word
  pc : Option Word
  ime : Option Bool
  halted : Option Bool
  stopped : Option Bool
  mem : Memory
  deriving DecidableEq, Repr

/-- The reset action (R280): PC, IME, the latches and `fault` take their reset values. The registers the
rule leaves unspecified, and memory, keep what they hold (DESIGN CHOICE, log entry 6). -/
def State.resetAction (s : State) : State :=
  { s with pc := 0x0000, ime := false, halted := false, stopped := false, fault := none }

/-- The preset applied to a state (R281): what it names is overwritten, all of memory is supplied. -/
def State.preset (s : State) (init : InitState) : State :=
  { s with
    a := init.a.getD s.a
    b := init.b.getD s.b
    c := init.c.getD s.c
    d := init.d.getD s.d
    e := init.e.getD s.e
    h := init.h.getD s.h
    l := init.l.getD s.l
    flags :=
      { z := init.zFlag.getD s.flags.z
        n := init.nFlag.getD s.flags.n
        h := init.hFlag.getD s.flags.h
        c := init.cFlag.getD s.flags.c }
    sp := init.sp.getD s.sp
    pc := init.pc.getD s.pc
    ime := init.ime.getD s.ime
    halted := init.halted.getD s.halted
    stopped := init.stopped.getD s.stopped
    mem := init.mem }

/-- A launch of a build (R281): reset, with the build's parameters, then the preset. What neither gives
a value holds the value of `State.reset` (log entry 2). -/
def State.launch (cfg : Config) (init : InitState) : State :=
  ({ State.reset with config := cfg }).preset init

/-- The host's resume (R272: it clears `halted` or `stopped` and steps again). That both latches are cleared
at once, also when both are set, is the model's choice (DESIGN CHOICE, log entry 12); no step does it. -/
def State.resume (s : State) : State := { s with halted := false, stopped := false }

end Sys2Proof.Machine
end

