-- ==== Sys2Proof/Safety.lean ====
section
/-! DEFINITION. The terms the statements use: what a step leaves unchanged, how an instruction stands in
memory, and how a run ends (spec/70_reset_and_hazards.md R287). -/

namespace Sys2Proof.Machine

/-! ### What is unchanged from `s` to `t` -/

/-- IME, the latches, the fault status and the parameters are unchanged. -/
def SameControl (s t : State) : Prop :=
  t.ime = s.ime ∧ t.halted = s.halted ∧ t.stopped = s.stopped ∧ t.fault = s.fault ∧
    t.config = s.config

/-- Every data register that `written` does not name is unchanged. -/
def SameRegsBut (written : Reg8 → Prop) (s t : State) : Prop :=
  ∀ r : Reg8, ¬written r → t.reg8 r = s.reg8 r

/-- Every data register is unchanged. -/
def SameRegs (s t : State) : Prop := ∀ r : Reg8, t.reg8 r = s.reg8 r

/-- Every byte of memory at an address that `written` does not name reads as before. -/
def SameMemoryBut (written : Word → Prop) (s t : State) : Prop :=
  ∀ k : Word, ¬written k → t.load k = s.load k

/-- Every byte of memory reads as before. -/
def SameMemory (s t : State) : Prop := ∀ k : Word, t.load k = s.load k

/-- Of the data registers, only those of the 8-bit operand `o` may have changed: the register it names,
or none when it is the byte at HL. -/
def OperandReg (o : Opnd8) (r : Reg8) : Prop := o = .reg r

/-- The address of the byte the operand `o` names in `s`, if it is in memory. -/
def OperandByte (s : State) (o : Opnd8) (k : Word) : Prop := o = .atHl ∧ k = s.pair .hl

/-- A register that is one of the two halves of a pair (R25); F is no data register. -/
def HalfOf (p : Pair) (r : Reg8) : Prop :=
  match p with
  | .bc => r = .b ∨ r = .c
  | .de => r = .d ∨ r = .e
  | .hl => r = .h ∨ r = .l
  | .af => r = .a

/-- The halves of a 16-bit operand of the SP group among the data registers (R78); SP has none (R27). -/
def HalfOf16 (r : Reg16) (x : Reg8) : Prop :=
  match r with
  | .bc => x = .b ∨ x = .c
  | .de => x = .d ∨ x = .e
  | .hl => x = .h ∨ x = .l
  | .sp => False

/-- Everything but A and the flags is unchanged. -/
def OnlyAccumulator (s t : State) : Prop :=
  SameRegsBut (· = .a) s t ∧ t.sp = s.sp ∧ t.pc = s.pc ∧ SameMemory s t ∧ SameControl s t

/-- Everything but the 8-bit operand `o` and the flags is unchanged: of the registers only the one `o`
names, of memory only the byte at HL when `o` is that byte. -/
def OnlyOperand (o : Opnd8) (s t : State) : Prop :=
  SameRegsBut (OperandReg o) s t ∧ SameMemoryBut (OperandByte s o) s t ∧ t.sp = s.sp ∧
    t.pc = s.pc ∧ SameControl s t

/-- The 16-bit operand `r` holds `v` after, and everything but `r` and the flags is unchanged. -/
def OnlyReg16 (r : Reg16) (v : Word) (s t : State) : Prop :=
  t.read16 r = v ∧ SameRegsBut (HalfOf16 r) s t ∧ (r ≠ .sp → t.sp = s.sp) ∧ t.pc = s.pc ∧
    SameMemory s t ∧ SameControl s t

/-- Everything but PC is unchanged. -/
def OnlyPc (s t : State) : Prop :=
  SameRegs s t ∧ t.flags = s.flags ∧ t.sp = s.sp ∧ SameMemory s t ∧ SameControl s t

/-! ### Shapes of effect that several instructions share -/

/-- `i` completes: A takes the byte at `addr`, and nothing else changes (R107 to R113). -/
def LoadsA (i : Instr) (addr : Word) (s : State) : Prop :=
  ∃ t, exec i s = .next t ∧ t.a = s.load addr ∧ t.flags = s.flags ∧ OnlyAccumulator s t

/-- `i` completes: the byte at `addr` takes A, and nothing else changes (R108 to R114). -/
def StoresA (i : Instr) (addr : Word) (s : State) : Prop :=
  ∃ t, exec i s = .next t ∧ t.load addr = s.a ∧ SameMemoryBut (· = addr) s t ∧ SameRegs s t ∧
    t.flags = s.flags ∧ t.sp = s.sp ∧ t.pc = s.pc ∧ SameControl s t

/-- `i` completes: PC takes `target`, and nothing else changes (R221 to R225). -/
def JumpsTo (i : Instr) (target : Word) (s : State) : Prop :=
  ∃ t, exec i s = .next t ∧ t.pc = target ∧ OnlyPc s t

/-- `i` completes: next is pushed (R180), its low byte at SP - 2 and its high byte at SP - 1, PC takes
`target`, and nothing else changes (R226, R231). -/
def CallsTo (i : Instr) (target : Word) (s : State) : Prop :=
  ∃ t, exec i s = .next t ∧ t.pc = target ∧ t.sp = s.sp - 2 ∧
    t.load (s.sp - 2) = loByte s.pc ∧ t.load (s.sp - 1) = hiByte s.pc ∧
    SameMemoryBut (fun k => k = s.sp - 1 ∨ k = s.sp - 2) s t ∧
    SameRegs s t ∧ t.flags = s.flags ∧ SameControl s t

/-- `t` is `s` after a return (R181, R228): PC has the low byte from SP and the high byte from SP + 1, SP
is past them, and the registers, the flags and memory are unchanged. -/
def ReturnedTo (s t : State) : Prop :=
  loByte t.pc = s.load s.sp ∧ hiByte t.pc = s.load (s.sp + 1) ∧ t.sp = s.sp + 2 ∧
    SameRegs s t ∧ t.flags = s.flags ∧ SameMemory s t

/-- A condition code holds of the flags (R220). -/
def CondTrue (cc : Cond) (f : Flags) : Prop :=
  match cc with
  | .nz => f.z = false
  | .z => f.z = true
  | .nc => f.c = false
  | .c => f.c = true

/-- `i`, a rotate or shift of the 8-bit operand `o`, completes with the result `res` in the operand, the
flags `Z 0 0 C` with `carry` in C, and nothing else changed (R190, R195). -/
def ShiftsTo (i : Instr) (o : Opnd8) (res : Byte) (carry : Bool) (s : State) : Prop :=
  ∃ t, exec i s = .next t ∧ t.read8 o = res ∧
    t.flags = { z := decide (res = 0), n := false, h := false, c := carry } ∧ OnlyOperand o s t

/-- `i`, a rotate of A, completes with the result `res` in A, the flags `0 0 0 C` with `carry` in C, and
nothing else changed (R191 to R194). -/
def RotatesA (i : Instr) (res : Byte) (carry : Bool) (s : State) : Prop :=
  ∃ t, exec i s = .next t ∧ t.a = res ∧
    t.flags = { z := false, n := false, h := false, c := carry } ∧ OnlyAccumulator s t

/-! ### Where an instruction stores (spec/20_memory.md R59) -/

/-- The addresses of the bytes an instruction stores to, run from `s`: the address expressions of its
rule. A conditional CALL stores when taken; the marker of slot 0xCB stores where its CB slot does. -/
def storeAddresses (i : Instr) (s : State) : List Word :=
  match i with
  | .ldAtHlIncA | .ldAtHlDecA | .incAtHl | .decAtHl | .ldAtHlD8 _ | .ldAtHlB | .ldAtHlC
  | .ldAtHlD | .ldAtHlE | .ldAtHlH | .ldAtHlL | .ldAtHlA =>
    [s.pair .hl]
  | .ldAtBcA =>
    [s.pair .bc]
  | .ldAtDeA =>
    [s.pair .de]
  | .ldAtA16A nn =>
    [nn]
  | .ldhAtA8A n =>
    [highPage n]
  | .ldAtCA =>
    [highPage s.c]
  | .ldAtA16Sp nn =>
    [nn, nn + 1]
  | .pushBc | .rst00 | .callA16 _ | .rst08 | .pushDe | .rst10 | .rst18 | .pushHl | .rst20
  | .rst28 | .pushAf | .rst30 | .rst38 =>
    [s.sp - 1, s.sp - 2]
  | .callNzA16 _ =>
    if condHolds .nz s.flags then [s.sp - 1, s.sp - 2] else []
  | .callZA16 _ =>
    if condHolds .z s.flags then [s.sp - 1, s.sp - 2] else []
  | .callNcA16 _ =>
    if condHolds .nc s.flags then [s.sp - 1, s.sp - 2] else []
  | .callCA16 _ =>
    if condHolds .c s.flags then [s.sp - 1, s.sp - 2] else []
  | .rlcAtHl | .rrcAtHl | .rlAtHl | .rrAtHl | .slaAtHl | .sraAtHl | .swapAtHl | .srlAtHl
  | .res0AtHl | .res1AtHl | .res2AtHl | .res3AtHl | .res4AtHl | .res5AtHl | .res6AtHl
  | .res7AtHl | .set0AtHl | .set1AtHl | .set2AtHl | .set3AtHl | .set4AtHl | .set5AtHl
  | .set6AtHl | .set7AtHl =>
    [s.pair .hl]
  | .prefixCb =>
    if fieldX (s.load s.pc) ≠ 1 ∧ fieldZ (s.load s.pc) = 6 then [s.pair .hl] else []
  | _ => []

/-! ### Encodings -/

/-- The instruction stands in memory as `bytes`: the encoder gives them, and the decoder reads the
instruction from them, whatever follows, with their number as its length. -/
def EncodedAs (i : Instr) (bytes : List Byte) : Prop :=
  encode i = bytes ∧
    ∀ rest : List Byte, ∃ slot, decode (bytes ++ rest) = .ok { instr := i, slot := slot, len := bytes.length }

/-- The bytes of an accumulator operation (R130): `10 kkk zzz`, or `11 kkk 110 n`. -/
def aluBytes (op : AluOp) (src : AluSrc) : List Byte :=
  match src with
  | .opnd o => [BitVec.ofNat 8 (0x80 + 8 * aluCode op + opndCode o)]
  | .imm n => [BitVec.ofNat 8 (0xC6 + 8 * aluCode op), n]

/-- The 11 unimplemented slots of the primary table (R89) and their rows. -/
def unimplementedRows : List (Byte × Instr) :=
  [ (0xD3, .unimplementedD3), (0xDB, .unimplementedDB), (0xDD, .unimplementedDD),
    (0xE3, .unimplementedE3), (0xE4, .unimplementedE4), (0xEB, .unimplementedEB),
    (0xEC, .unimplementedEC), (0xED, .unimplementedED), (0xF4, .unimplementedF4),
    (0xFC, .unimplementedFC), (0xFD, .unimplementedFD) ]

/-! ### The end of a run (R287) -/

/-- The instruction at PC is HALT or STOP, and the build has its descriptor. -/
def endsRun (s : State) : Bool :=
  match fetchDecode s with
  | .rejected _ => false
  | .ok d =>
    !lacksDescriptor s.config d.slot &&
      match d.instr with
      | .halt => true
      | .stop _ => true
      | _ => false

/-- How a run stands after some steps (R287; over a bounded number of steps, DEDUCED, log entry 11). -/
inductive RunStatus where
  /-- The state right after the first step that executed HALT or STOP. -/
  | final (s : State)
  /-- A step set `fault`, or the run began with it set. -/
  | faulted (s : State)
  /-- Neither yet. -/
  | running (s : State)
  deriving DecidableEq, Repr

/-- A run of at most `fuel` steps (R287; the bound is the model's, DEDUCED, log entry 11). A step with no next
state is a step of a faulted state. -/
def runFor (fuel : Nat) (s : State) : RunStatus :=
  match fuel with
  | 0 => .running s
  | k + 1 =>
    match step s with
    | .next t =>
      if t.fault.isSome then .faulted t
      else if endsRun s then .final t
      else runFor k t
    | .fault _ => .faulted s
    | .refused _ => .faulted s

/-- A safe state: no fault is recorded, so the next step runs an instruction (R263, R264). -/
def Safe (s : State) : Prop := s.fault = none

end Sys2Proof.Machine
end

