-- ==== Sys2Proof/Certificates/Slice0/Obligations.lean ====
section
/-! DEFINITION. The statements about the machine, by the spec's numbered rules. `exec` runs an instruction from
the state whose PC is at next (R85), so `t.pc = s.pc` says that PC stays at next. An immediate operand is the
instruction's argument, and `EncodedAs` says which bytes it stands in. -/

open Sys2Proof Sys2Proof.Machine

/-! ### Registers and pairs (spec/10_state.md) -/

/-- R22, R25, R26: which register is which half of a pair. A pair reads as its high half times 256 plus its
low half, with Z, N, H, C in bits 7 to 4 of AF's low half; a write stores both halves and nothing else, with
AF's low half as the flags. The register and 16-bit operands are these same registers, by name. -/
def Obligations.PairsAreTheirHalves : Prop :=
  ∀ (s : State) (v : Word),
    ((s.pair .bc).toNat = s.b.toNat * 256 + s.c.toNat ∧
      (s.pair .de).toNat = s.d.toNat * 256 + s.e.toNat ∧
      (s.pair .hl).toNat = s.h.toNat * 256 + s.l.toNat ∧
      (s.pair .af).toNat = s.a.toNat * 256 + s.flags.z.toNat * 128 + s.flags.n.toNat * 64 +
        s.flags.h.toNat * 32 + s.flags.c.toNat * 16) ∧
    (∃ hi lo : Byte, hi.toNat = v.toNat / 256 ∧ lo.toNat = v.toNat % 256 ∧
      s.setPair .bc v = { s with b := hi, c := lo } ∧
      s.setPair .de v = { s with d := hi, e := lo } ∧
      s.setPair .hl v = { s with h := hi, l := lo } ∧
      s.setPair .af v = { s with
        a := hi
        flags := { z := lo.getLsbD 7, n := lo.getLsbD 6, h := lo.getLsbD 5, c := lo.getLsbD 4 } }) ∧
    (s.reg8 .a = s.a ∧ s.reg8 .b = s.b ∧ s.reg8 .c = s.c ∧ s.reg8 .d = s.d ∧ s.reg8 .e = s.e ∧
      s.reg8 .h = s.h ∧ s.reg8 .l = s.l) ∧
    (s.read16 .bc = s.pair .bc ∧ s.read16 .de = s.pair .de ∧ s.read16 .hl = s.pair .hl ∧
      s.read16 .sp = s.sp)

/-! ### Loads (spec/41_load.md) -/

/-- R102, R103: `LD r,r'` (49 instructions) and `LD r,d8` (7 instructions). -/
def Obligations.LoadRegister : Prop :=
  (∀ (dst r : Reg8) (s : State),
    EncodedAs (rowLd (.reg dst) (.reg r))
      [BitVec.ofNat 8 (0x40 + 8 * opndCode (.reg dst) + opndCode (.reg r))] ∧
    ∃ t, exec (rowLd (.reg dst) (.reg r)) s = .next t ∧ t.reg8 dst = s.reg8 r ∧
      SameRegsBut (· = dst) s t ∧ t.flags = s.flags ∧ t.sp = s.sp ∧ t.pc = s.pc ∧
      SameMemory s t ∧ SameControl s t) ∧
  (∀ (dst : Reg8) (n : Byte) (s : State),
    EncodedAs (rowLdImm (.reg dst) n) [BitVec.ofNat 8 (0x06 + 8 * opndCode (.reg dst)), n] ∧
    ∃ t, exec (rowLdImm (.reg dst) n) s = .next t ∧ t.reg8 dst = n ∧
      SameRegsBut (· = dst) s t ∧ t.flags = s.flags ∧ t.sp = s.sp ∧ t.pc = s.pc ∧
      SameMemory s t ∧ SameControl s t)

/-- R104: `LD r,(HL)`. 7 instructions. The address is HL before the write, also for H and L. -/
def Obligations.LoadRegisterFromByteAtHl : Prop :=
  ∀ (dst : Reg8) (s : State),
    EncodedAs (rowLd (.reg dst) .atHl) [BitVec.ofNat 8 (0x46 + 8 * opndCode (.reg dst))] ∧
    ∃ t, exec (rowLd (.reg dst) .atHl) s = .next t ∧ t.reg8 dst = s.load (s.pair .hl) ∧
      SameRegsBut (· = dst) s t ∧ t.flags = s.flags ∧ t.sp = s.sp ∧ t.pc = s.pc ∧
      SameMemory s t ∧ SameControl s t

/-- R105, R106: `LD (HL),r` (7 instructions, H and L among them) and `LD (HL),d8`. -/
def Obligations.StoreAtHl : Prop :=
  (∀ (r : Reg8) (s : State),
    EncodedAs (rowLd .atHl (.reg r)) [BitVec.ofNat 8 (0x70 + opndCode (.reg r))] ∧
    ∃ t, exec (rowLd .atHl (.reg r)) s = .next t ∧ t.load (s.pair .hl) = s.reg8 r ∧
      SameMemoryBut (· = s.pair .hl) s t ∧ SameRegs s t ∧ t.flags = s.flags ∧ t.sp = s.sp ∧
      t.pc = s.pc ∧ SameControl s t) ∧
  (∀ (n : Byte) (s : State),
    EncodedAs (.ldAtHlD8 n) [0x36, n] ∧
    ∃ t, exec (.ldAtHlD8 n) s = .next t ∧ t.load (s.pair .hl) = n ∧
      SameMemoryBut (· = s.pair .hl) s t ∧ SameRegs s t ∧ t.flags = s.flags ∧ t.sp = s.sp ∧
      t.pc = s.pc ∧ SameControl s t)

/-- R107, R109, R111, R113: A from the byte a pair, a16, 0xFF00 + a8 or 0xFF00 + C addresses. -/
def Obligations.AccumulatorLoads : Prop :=
  ∀ (s : State) (n : Byte) (nn : Word),
    (EncodedAs .ldAAtBc [0x0A] ∧ LoadsA .ldAAtBc (s.pair .bc) s) ∧
    (EncodedAs .ldAAtDe [0x1A] ∧ LoadsA .ldAAtDe (s.pair .de) s) ∧
    (EncodedAs (.ldAAtA16 nn) [0xFA, loByte nn, hiByte nn] ∧ LoadsA (.ldAAtA16 nn) nn s) ∧
    (EncodedAs (.ldhAAtA8 n) [0xF0, n] ∧
      LoadsA (.ldhAAtA8 n) (BitVec.ofNat 16 (0xFF00 + n.toNat)) s) ∧
    (EncodedAs .ldAAtC [0xF2] ∧ LoadsA .ldAAtC (BitVec.ofNat 16 (0xFF00 + s.c.toNat)) s)

/-- R108, R110, R112, R114: A to the byte a pair, a16, 0xFF00 + a8 or 0xFF00 + C addresses. -/
def Obligations.AccumulatorStores : Prop :=
  ∀ (s : State) (n : Byte) (nn : Word),
    (EncodedAs .ldAtBcA [0x02] ∧ StoresA .ldAtBcA (s.pair .bc) s) ∧
    (EncodedAs .ldAtDeA [0x12] ∧ StoresA .ldAtDeA (s.pair .de) s) ∧
    (EncodedAs (.ldAtA16A nn) [0xEA, loByte nn, hiByte nn] ∧ StoresA (.ldAtA16A nn) nn s) ∧
    (EncodedAs (.ldhAtA8A n) [0xE0, n] ∧
      StoresA (.ldhAtA8A n) (BitVec.ofNat 16 (0xFF00 + n.toNat)) s) ∧
    (EncodedAs .ldAtCA [0xE2] ∧ StoresA .ldAtCA (BitVec.ofNat 16 (0xFF00 + s.c.toNat)) s)

/-- R116, R118: `LD A,(HL+)` and `LD A,(HL-)`: the byte at the old HL, then HL plus or minus 1. -/
def Obligations.LoadAccumulatorAndAdjustHl : Prop :=
  EncodedAs .ldAAtHlInc [0x2A] ∧ EncodedAs .ldAAtHlDec [0x3A] ∧
  ∀ (s : State) (i : Instr) (delta : Int),
    (i = .ldAAtHlInc ∧ delta = 1) ∨ (i = .ldAAtHlDec ∧ delta = -1) →
    ∃ t, exec i s = .next t ∧ t.a = s.load (s.pair .hl) ∧
      t.pair .hl = BitVec.ofInt 16 ((s.pair .hl).toNat + delta) ∧
      SameRegsBut (fun r => r = .a ∨ HalfOf .hl r) s t ∧ t.flags = s.flags ∧ t.sp = s.sp ∧
      t.pc = s.pc ∧ SameMemory s t ∧ SameControl s t

/-- R115, R117: `LD (HL+),A` and `LD (HL-),A`: the byte at the old HL, then HL plus or minus 1. -/
def Obligations.StoreAccumulatorAndAdjustHl : Prop :=
  EncodedAs .ldAtHlIncA [0x22] ∧ EncodedAs .ldAtHlDecA [0x32] ∧
  ∀ (s : State) (i : Instr) (delta : Int),
    (i = .ldAtHlIncA ∧ delta = 1) ∨ (i = .ldAtHlDecA ∧ delta = -1) →
    ∃ t, exec i s = .next t ∧ t.load (s.pair .hl) = s.a ∧
      SameMemoryBut (· = s.pair .hl) s t ∧
      t.pair .hl = BitVec.ofInt 16 ((s.pair .hl).toNat + delta) ∧
      SameRegsBut (HalfOf .hl) s t ∧ t.flags = s.flags ∧ t.sp = s.sp ∧
      t.pc = s.pc ∧ SameControl s t

/-- R119, R121: `LD rr,d16` (4 instructions; the high byte goes to B, D or H) and `LD SP,HL`. -/
def Obligations.LoadSixteenBit : Prop :=
  (∀ (r : Reg16) (nn : Word) (s : State),
    EncodedAs (rowLdPair r nn) [BitVec.ofNat 8 (0x01 + 16 * reg16Code r), loByte nn, hiByte nn] ∧
    ∃ t, exec (rowLdPair r nn) s = .next t ∧ OnlyReg16 r nn s t ∧ t.flags = s.flags ∧
      (r = .bc → t.b = hiByte nn ∧ t.c = loByte nn) ∧
      (r = .de → t.d = hiByte nn ∧ t.e = loByte nn) ∧
      (r = .hl → t.h = hiByte nn ∧ t.l = loByte nn) ∧
      (r = .sp → t.sp = nn)) ∧
  (∀ s : State,
    EncodedAs .ldSpHl [0xF9] ∧
    ∃ t, exec .ldSpHl s = .next t ∧ OnlyReg16 .sp (s.pair .hl) s t ∧ t.flags = s.flags ∧
      hiByte t.sp = s.h ∧ loByte t.sp = s.l)

/-- R120: `LD (a16),SP`, little-endian, the second byte's address mod 65536. -/
def Obligations.StoreStackPointer : Prop :=
  ∀ (nn : Word) (s : State),
    EncodedAs (.ldAtA16Sp nn) [0x08, loByte nn, hiByte nn] ∧
    ∃ t, exec (.ldAtA16Sp nn) s = .next t ∧ t.load nn = loByte s.sp ∧
      t.load (nn + 1) = hiByte s.sp ∧ SameMemoryBut (fun k => k = nn ∨ k = nn + 1) s t ∧
      SameRegs s t ∧ t.flags = s.flags ∧ t.sp = s.sp ∧ t.pc = s.pc ∧ SameControl s t

/-! ### 8-bit arithmetic and logic (spec/42_alu8.md) -/

/-- R131: ADD A,s in its three forms. 9 instructions. -/
def Obligations.AddToAccumulator : Prop :=
  ∀ (src : AluSrc) (s : State),
    EncodedAs (rowAlu .add src) (aluBytes .add src) ∧
    ∃ t, exec (rowAlu .add src) s = .next t ∧ t.a = s.a + s.aluOperand src ∧
      t.flags.z = decide (t.a = 0) ∧ t.flags.n = false ∧
      (t.flags.h = true ↔ (s.a &&& 0x0F).toNat + (s.aluOperand src &&& 0x0F).toNat > 0x0F) ∧
      (t.flags.c = true ↔ s.a.toNat + (s.aluOperand src).toNat > 0xFF) ∧ OnlyAccumulator s t

/-- R132: ADC A,s in its three forms. 9 instructions. -/
def Obligations.AddWithCarryToAccumulator : Prop :=
  ∀ (src : AluSrc) (s : State),
    EncodedAs (rowAlu .adc src) (aluBytes .adc src) ∧
    ∃ t, exec (rowAlu .adc src) s = .next t ∧
      t.a = s.a + s.aluOperand src + BitVec.ofNat 8 s.flags.c.toNat ∧
      t.flags.z = decide (t.a = 0) ∧ t.flags.n = false ∧
      (t.flags.h = true ↔
        (s.a &&& 0x0F).toNat + (s.aluOperand src &&& 0x0F).toNat + s.flags.c.toNat > 0x0F) ∧
      (t.flags.c = true ↔ s.a.toNat + (s.aluOperand src).toNat + s.flags.c.toNat > 0xFF) ∧
      OnlyAccumulator s t

/-- R133: SUB A,s in its three forms. 9 instructions. -/
def Obligations.SubtractFromAccumulator : Prop :=
  ∀ (src : AluSrc) (s : State),
    EncodedAs (rowAlu .sub src) (aluBytes .sub src) ∧
    ∃ t, exec (rowAlu .sub src) s = .next t ∧ t.a = s.a - s.aluOperand src ∧
      t.flags.z = decide (t.a = 0) ∧ t.flags.n = true ∧
      (t.flags.h = true ↔ (s.a &&& 0x0F).toNat < (s.aluOperand src &&& 0x0F).toNat) ∧
      (t.flags.c = true ↔ s.a.toNat < (s.aluOperand src).toNat) ∧ OnlyAccumulator s t

/-- R134: SBC A,s in its three forms. 9 instructions. -/
def Obligations.SubtractWithCarryFromAccumulator : Prop :=
  ∀ (src : AluSrc) (s : State),
    EncodedAs (rowAlu .sbc src) (aluBytes .sbc src) ∧
    ∃ t, exec (rowAlu .sbc src) s = .next t ∧
      t.a = s.a - s.aluOperand src - BitVec.ofNat 8 s.flags.c.toNat ∧
      t.flags.z = decide (t.a = 0) ∧ t.flags.n = true ∧
      (t.flags.h = true ↔
        (s.a &&& 0x0F).toNat < (s.aluOperand src &&& 0x0F).toNat + s.flags.c.toNat) ∧
      (t.flags.c = true ↔ s.a.toNat < (s.aluOperand src).toNat + s.flags.c.toNat) ∧
      OnlyAccumulator s t

/-- R135, R136, R137: AND, XOR and OR in their three forms, bit by bit. 27 instructions. -/
def Obligations.LogicOnAccumulator : Prop :=
  ∀ (src : AluSrc) (s : State),
    (EncodedAs (rowAlu .and src) (aluBytes .and src) ∧
      ∃ t, exec (rowAlu .and src) s = .next t ∧
        (∀ k < 8, t.a.getLsbD k = (s.a.getLsbD k && (s.aluOperand src).getLsbD k)) ∧
        t.flags = { z := decide (t.a = 0), n := false, h := true, c := false } ∧
        OnlyAccumulator s t) ∧
    (EncodedAs (rowAlu .xor src) (aluBytes .xor src) ∧
      ∃ t, exec (rowAlu .xor src) s = .next t ∧
        (∀ k < 8, t.a.getLsbD k = (s.a.getLsbD k ^^ (s.aluOperand src).getLsbD k)) ∧
        t.flags = { z := decide (t.a = 0), n := false, h := false, c := false } ∧
        OnlyAccumulator s t) ∧
    (EncodedAs (rowAlu .or src) (aluBytes .or src) ∧
      ∃ t, exec (rowAlu .or src) s = .next t ∧
        (∀ k < 8, t.a.getLsbD k = (s.a.getLsbD k || (s.aluOperand src).getLsbD k)) ∧
        t.flags = { z := decide (t.a = 0), n := false, h := false, c := false } ∧
        OnlyAccumulator s t)

/-- R138: CP A,s in its three forms: the flags of SUB, A unchanged. 9 instructions. -/
def Obligations.CompareWithAccumulator : Prop :=
  ∀ (src : AluSrc) (s : State),
    EncodedAs (rowAlu .cp src) (aluBytes .cp src) ∧
    ∃ t, exec (rowAlu .cp src) s = .next t ∧ t.a = s.a ∧
      (∃ u, exec (rowAlu .sub src) s = .next u ∧ t.flags = u.flags) ∧
      (t.flags.z = true ↔ s.a = s.aluOperand src) ∧ t.flags.n = true ∧
      (t.flags.h = true ↔ (s.a &&& 0x0F).toNat < (s.aluOperand src &&& 0x0F).toNat) ∧
      (t.flags.c = true ↔ s.a.toNat < (s.aluOperand src).toNat) ∧ OnlyAccumulator s t

/-- R139, R140: INC r and INC (HL) under both profiles. 8 instructions. -/
def Obligations.IncrementOperand : Prop :=
  ∀ (o : Opnd8) (s : State),
    EncodedAs (rowInc o) [BitVec.ofNat 8 (0x04 + 8 * opndCode o)] ∧
    ∃ t, exec (rowInc o) s = .next t ∧
      (t.read8 o).toNat = ((s.read8 o).toNat + 1) % 256 ∧
      (t.flags.z = true ↔ s.read8 o = 0xFF) ∧
      (s.config.flagProfile = .doc → t.flags.n = s.flags.n) ∧
      (s.config.flagProfile = .sm83 → t.flags.n = false) ∧
      (t.flags.h = true ↔ s.read8 o &&& 0x0F = 0x0F) ∧
      t.flags.c = s.flags.c ∧ OnlyOperand o s t

/-- R141, R142: DEC r and DEC (HL). 8 instructions. -/
def Obligations.DecrementOperand : Prop :=
  ∀ (o : Opnd8) (s : State),
    EncodedAs (rowDec o) [BitVec.ofNat 8 (0x05 + 8 * opndCode o)] ∧
    ∃ t, exec (rowDec o) s = .next t ∧
      (t.read8 o).toNat = ((s.read8 o).toNat + 255) % 256 ∧
      (t.flags.z = true ↔ s.read8 o = 0x01) ∧ t.flags.n = true ∧
      (t.flags.h = true ↔ s.read8 o &&& 0x0F = 0x00) ∧
      t.flags.c = s.flags.c ∧ OnlyOperand o s t

/-- R143: SUB A,A gives zero, CP A,A leaves A, both with Z = N = 1 and H = C = 0. -/
def Obligations.SelfSubtraction : Prop :=
  ∀ s : State,
    (∃ t, exec .subAA s = .next t ∧ t.a = 0 ∧
      t.flags = { z := true, n := true, h := false, c := false }) ∧
    (∃ t, exec .cpAA s = .next t ∧ t.a = s.a ∧
      t.flags = { z := true, n := true, h := false, c := false })

/-- R144 (the spec's own inference from R139 and R141): INC then DEC, and DEC then INC, of one operand
restore it. -/
def Obligations.IncrementDecrementRestores : Prop :=
  ∀ (o : Opnd8) (s : State),
    (∃ t u, exec (rowInc o) s = .next t ∧ exec (rowDec o) t = .next u ∧ u.read8 o = s.read8 o) ∧
    (∃ t u, exec (rowDec o) s = .next t ∧ exec (rowInc o) t = .next u ∧ u.read8 o = s.read8 o)

/-! ### 16-bit arithmetic (spec/43_arith16.md) -/

/-- R160: ADD HL,rr, HL itself among the operands. 4 instructions. -/
def Obligations.AddToHl : Prop :=
  ∀ (r : Reg16) (s : State),
    EncodedAs (rowAddHl r) [BitVec.ofNat 8 (0x09 + 16 * reg16Code r)] ∧
    ∃ t, exec (rowAddHl r) s = .next t ∧ OnlyReg16 .hl (s.pair .hl + s.read16 r) s t ∧
      t.flags.z = s.flags.z ∧ t.flags.n = false ∧
      (t.flags.h = true ↔
        (s.pair .hl &&& 0x0FFF).toNat + (s.read16 r &&& 0x0FFF).toNat > 0x0FFF) ∧
      (t.flags.c = true ↔ (s.pair .hl).toNat + (s.read16 r).toNat > 0xFFFF)

/-- R161, R162, R163: ADD SP,e8 and LD HL,SP+e8 under both profiles. -/
def Obligations.SignedAdditionToStackPointer : Prop :=
  ∀ (e8 : Byte) (s : State) (i : Instr) (r : Reg16),
    (i = .addSpE8 e8 ∧ r = .sp) ∨ (i = .ldHlSpE8 e8 ∧ r = .hl) →
    EncodedAs (.addSpE8 e8) [0xE8, e8] ∧ EncodedAs (.ldHlSpE8 e8) [0xF8, e8] ∧
    ∃ t, exec i s = .next t ∧
      OnlyReg16 r (BitVec.ofInt 16 (s.sp.toNat + e8.toInt)) s t ∧
      t.flags.z = false ∧ t.flags.n = false ∧
      (s.config.flagProfile = .doc →
        (t.flags.h = true ↔
          (s.sp &&& 0x0FFF).toNat + (e8.signExtend 16 &&& 0x0FFF).toNat > 0x0FFF) ∧
        (t.flags.c = true ↔ s.sp.toNat + (e8.signExtend 16).toNat > 0xFFFF)) ∧
      (s.config.flagProfile = .sm83 →
        (t.flags.h = true ↔ (s.sp &&& 0x0F).toNat + (e8 &&& 0x0F).toNat > 0x0F) ∧
        (t.flags.c = true ↔ (s.sp &&& 0xFF).toNat + e8.toNat > 0xFF))

/-- R164, R165: INC rr and DEC rr, mod 65536, no flags. 8 instructions. -/
def Obligations.IncrementDecrementPair : Prop :=
  ∀ (r : Reg16) (s : State),
    (EncodedAs (rowIncPair r) [BitVec.ofNat 8 (0x03 + 16 * reg16Code r)] ∧
      ∃ t, exec (rowIncPair r) s = .next t ∧
        OnlyReg16 r (BitVec.ofNat 16 ((s.read16 r).toNat + 1)) s t ∧ t.flags = s.flags) ∧
    (EncodedAs (rowDecPair r) [BitVec.ofNat 8 (0x0B + 16 * reg16Code r)] ∧
      ∃ t, exec (rowDecPair r) s = .next t ∧
        OnlyReg16 r (BitVec.ofNat 16 ((s.read16 r).toNat + 65535)) s t ∧ t.flags = s.flags)

/-! ### The stack (spec/44_stack.md) -/

/-- R180, R182: PUSH rr. 4 instructions. The halves are the registers R25 names. For AF the low byte is F:
Z, N, H and C in bits 7 to 4, the low nibble 0 (R22). -/
def Obligations.PushPair : Prop :=
  ∀ (p : Pair) (s : State),
    EncodedAs (rowPush p) [BitVec.ofNat 8 (0xC5 + 16 * pairCode p)] ∧
    ∃ t, exec (rowPush p) s = .next t ∧ t.sp = s.sp - 2 ∧
      t.load (s.sp - 1) = hiByte (s.pair p) ∧ t.load (s.sp - 2) = loByte (s.pair p) ∧
      (p = .bc → hiByte (s.pair p) = s.b ∧ loByte (s.pair p) = s.c) ∧
      (p = .de → hiByte (s.pair p) = s.d ∧ loByte (s.pair p) = s.e) ∧
      (p = .hl → hiByte (s.pair p) = s.h ∧ loByte (s.pair p) = s.l) ∧
      (p = .af → hiByte (s.pair p) = s.a) ∧
      (p = .af → ∀ k < 8, (loByte (s.pair p)).getLsbD k =
        if k = 7 then s.flags.z else if k = 6 then s.flags.n else if k = 5 then s.flags.h
        else if k = 4 then s.flags.c else false) ∧
      SameMemoryBut (fun k => k = s.sp - 1 ∨ k = s.sp - 2) s t ∧
      SameRegs s t ∧ t.flags = s.flags ∧ t.pc = s.pc ∧ SameControl s t

/-- R181, R183: POP rr. 4 instructions. The halves are the registers R25 names. For AF the low byte's upper
nibble becomes the flags. -/
def Obligations.PopPair : Prop :=
  ∀ (p : Pair) (s : State),
    EncodedAs (rowPop p) [BitVec.ofNat 8 (0xC1 + 16 * pairCode p)] ∧
    ∃ t, exec (rowPop p) s = .next t ∧ t.sp = s.sp + 2 ∧
      hiByte (t.pair p) = s.load (s.sp + 1) ∧
      (p ≠ .af → loByte (t.pair p) = s.load s.sp ∧ t.flags = s.flags) ∧
      (p = .bc → t.b = s.load (s.sp + 1) ∧ t.c = s.load s.sp) ∧
      (p = .de → t.d = s.load (s.sp + 1) ∧ t.e = s.load s.sp) ∧
      (p = .hl → t.h = s.load (s.sp + 1) ∧ t.l = s.load s.sp) ∧
      (p = .af → t.a = s.load (s.sp + 1)) ∧
      (p = .af → t.flags =
        { z := (s.load s.sp).getLsbD 7, n := (s.load s.sp).getLsbD 6,
          h := (s.load s.sp).getLsbD 5, c := (s.load s.sp).getLsbD 4 }) ∧
      SameRegsBut (HalfOf p) s t ∧ t.pc = s.pc ∧ SameMemory s t ∧ SameControl s t

/-- R184 (the spec's own inference from R180 to R183): PUSH rr then POP rr restores every register, the
flags and SP, for every SP, and the two stack bytes keep the pushed value. -/
def Obligations.StackRoundTrip : Prop :=
  ∀ (p : Pair) (s : State),
    ∃ t u, exec (rowPush p) s = .next t ∧ exec (rowPop p) t = .next u ∧
      u.pair p = s.pair p ∧ SameRegs s u ∧ u.flags = s.flags ∧ u.sp = s.sp ∧
      u.load (s.sp - 1) = hiByte (s.pair p) ∧ u.load (s.sp - 2) = loByte (s.pair p)

/-! ### Rotates, shifts and bits (spec/45_rotate_bit.md) -/

/-- R191 to R194: RLCA, RRCA, RLA and RRA; Z is cleared even when A becomes 0. -/
def Obligations.RotateAccumulator : Prop :=
  ∀ s : State,
    (EncodedAs .rlca [0x07] ∧ RotatesA .rlca (s.a.rotateLeft 1) (s.a.getLsbD 7) s) ∧
    (EncodedAs .rrca [0x0F] ∧ RotatesA .rrca (s.a.rotateRight 1) (s.a.getLsbD 0) s) ∧
    (EncodedAs .rla [0x17] ∧
      RotatesA .rla ((s.a <<< 1) ||| BitVec.ofNat 8 s.flags.c.toNat) (s.a.getLsbD 7) s) ∧
    (EncodedAs .rra [0x1F] ∧
      RotatesA .rra ((s.a >>> 1) ||| (BitVec.ofNat 8 s.flags.c.toNat <<< 7)) (s.a.getLsbD 0) s)

/-- R196 to R199: RLC, RRC, RL and RR of an 8-bit operand. 32 instructions. -/
def Obligations.RotateOperand : Prop :=
  ∀ (o : Opnd8) (s : State),
    (EncodedAs (rowShift .rlc o) [0xCB, BitVec.ofNat 8 (0x00 + opndCode o)] ∧
      ShiftsTo (rowShift .rlc o) o ((s.read8 o).rotateLeft 1) ((s.read8 o).getLsbD 7) s) ∧
    (EncodedAs (rowShift .rrc o) [0xCB, BitVec.ofNat 8 (0x08 + opndCode o)] ∧
      ShiftsTo (rowShift .rrc o) o ((s.read8 o).rotateRight 1) ((s.read8 o).getLsbD 0) s) ∧
    (EncodedAs (rowShift .rl o) [0xCB, BitVec.ofNat 8 (0x10 + opndCode o)] ∧
      ShiftsTo (rowShift .rl o) o ((s.read8 o <<< 1) ||| BitVec.ofNat 8 s.flags.c.toNat)
        ((s.read8 o).getLsbD 7) s) ∧
    (EncodedAs (rowShift .rr o) [0xCB, BitVec.ofNat 8 (0x18 + opndCode o)] ∧
      ShiftsTo (rowShift .rr o) o ((s.read8 o >>> 1) ||| (BitVec.ofNat 8 s.flags.c.toNat <<< 7))
        ((s.read8 o).getLsbD 0) s)

/-- R200, R201, R202, R203: SLA, SRA, SWAP and SRL of an 8-bit operand. 32 instructions. -/
def Obligations.ShiftOperand : Prop :=
  ∀ (o : Opnd8) (s : State),
    (EncodedAs (rowShift .sla o) [0xCB, BitVec.ofNat 8 (0x20 + opndCode o)] ∧
      ShiftsTo (rowShift .sla o) o (s.read8 o <<< 1) ((s.read8 o).getLsbD 7) s) ∧
    (EncodedAs (rowShift .sra o) [0xCB, BitVec.ofNat 8 (0x28 + opndCode o)] ∧
      ShiftsTo (rowShift .sra o) o ((s.read8 o).sshiftRight 1) ((s.read8 o).getLsbD 0) s) ∧
    (EncodedAs (rowShift .swap o) [0xCB, BitVec.ofNat 8 (0x30 + opndCode o)] ∧
      ShiftsTo (rowShift .swap o) o ((s.read8 o).rotateLeft 4) false s) ∧
    (EncodedAs (rowShift .srl o) [0xCB, BitVec.ofNat 8 (0x38 + opndCode o)] ∧
      ShiftsTo (rowShift .srl o) o (s.read8 o >>> 1) ((s.read8 o).getLsbD 0) s)

/-- R204: BIT b,r: Z is the complement of the bit, the operand is not written. 64 instructions. -/
def Obligations.TestBit : Prop :=
  ∀ (y : Fin 8) (o : Opnd8) (s : State),
    EncodedAs (rowBit y o) [0xCB, BitVec.ofNat 8 (0x40 + 8 * y.val + opndCode o)] ∧
    ∃ t, exec (rowBit y o) s = .next t ∧
      t.flags = { z := !(s.read8 o).getLsbD y.val, n := false, h := true, c := s.flags.c } ∧
      SameRegs s t ∧ SameMemory s t ∧ t.sp = s.sp ∧ t.pc = s.pc ∧ SameControl s t

/-- R205, R206: RES b,r and SET b,r: one bit of the operand, no flags. 128 instructions. -/
def Obligations.ClearAndSetBit : Prop :=
  ∀ (y : Fin 8) (o : Opnd8) (s : State),
    (EncodedAs (rowRes y o) [0xCB, BitVec.ofNat 8 (0x80 + 8 * y.val + opndCode o)] ∧
      ∃ t, exec (rowRes y o) s = .next t ∧
        (∀ k < 8, (t.read8 o).getLsbD k = if k = y.val then false else (s.read8 o).getLsbD k) ∧
        t.flags = s.flags ∧ OnlyOperand o s t) ∧
    (EncodedAs (rowSet y o) [0xCB, BitVec.ofNat 8 (0xC0 + 8 * y.val + opndCode o)] ∧
      ∃ t, exec (rowSet y o) s = .next t ∧
        (∀ k < 8, (t.read8 o).getLsbD k = if k = y.val then true else (s.read8 o).getLsbD k) ∧
        t.flags = s.flags ∧ OnlyOperand o s t)

/-! ### Control flow (spec/46_control.md) -/

/-- R221, R223, R224: JP a16, JP HL and JR e8. -/
def Obligations.UnconditionalJumps : Prop :=
  ∀ (nn : Word) (e8 : Byte) (s : State),
    (EncodedAs (.jpA16 nn) [0xC3, loByte nn, hiByte nn] ∧ JumpsTo (.jpA16 nn) nn s) ∧
    (EncodedAs .jpHl [0xE9] ∧ JumpsTo .jpHl (s.pair .hl) s) ∧
    (EncodedAs (.jrE8 e8) [0x18, e8] ∧
      JumpsTo (.jrE8 e8) (BitVec.ofInt 16 (s.pc.toNat + e8.toInt)) s)

/-- R222, R225: JP cc,a16 and JR cc,e8, taken and not taken. 8 instructions. -/
def Obligations.ConditionalJumps : Prop :=
  ∀ (cc : Cond) (nn : Word) (e8 : Byte) (s : State),
    EncodedAs (rowJp cc nn) [BitVec.ofNat 8 (0xC2 + 8 * condCode cc), loByte nn, hiByte nn] ∧
    EncodedAs (rowJr cc e8) [BitVec.ofNat 8 (0x20 + 8 * condCode cc), e8] ∧
    (CondTrue cc s.flags →
      JumpsTo (rowJp cc nn) nn s ∧
      JumpsTo (rowJr cc e8) (BitVec.ofInt 16 (s.pc.toNat + e8.toInt)) s) ∧
    (¬CondTrue cc s.flags → JumpsTo (rowJp cc nn) s.pc s ∧ JumpsTo (rowJr cc e8) s.pc s)

/-- R226, R227, R231: CALL a16, CALL cc,a16 and RST t push next and jump; a conditional call that is not
taken pushes nothing. 13 instructions. -/
def Obligations.Calls : Prop :=
  (∀ (nn : Word) (y : Fin 8) (s : State),
    (EncodedAs (.callA16 nn) [0xCD, loByte nn, hiByte nn] ∧ CallsTo (.callA16 nn) nn s) ∧
    (EncodedAs (rowRst y) [BitVec.ofNat 8 (0xC7 + 8 * y.val)] ∧
      CallsTo (rowRst y) (BitVec.ofNat 16 (8 * y.val)) s)) ∧
  (∀ (cc : Cond) (nn : Word) (s : State),
    EncodedAs (rowCall cc nn) [BitVec.ofNat 8 (0xC4 + 8 * condCode cc), loByte nn, hiByte nn] ∧
    (CondTrue cc s.flags → CallsTo (rowCall cc nn) nn s) ∧
    (¬CondTrue cc s.flags → JumpsTo (rowCall cc nn) s.pc s))

/-- R228, R229, R230: RET, RET cc and RETI; RETI also sets IME, and nothing else of the control state
changes. 6 instructions. -/
def Obligations.Returns : Prop :=
  (∀ s : State,
    (EncodedAs .ret [0xC9] ∧ ∃ t, exec .ret s = .next t ∧ ReturnedTo s t ∧ SameControl s t) ∧
    (EncodedAs .reti [0xD9] ∧ ∃ t, exec .reti s = .next t ∧ ReturnedTo s t ∧ t.ime = true ∧
      t.halted = s.halted ∧ t.stopped = s.stopped ∧ t.fault = s.fault ∧ t.config = s.config)) ∧
  (∀ (cc : Cond) (s : State),
    EncodedAs (rowRet cc) [BitVec.ofNat 8 (0xC0 + 8 * condCode cc)] ∧
    (CondTrue cc s.flags →
      ∃ t, exec (rowRet cc) s = .next t ∧ ReturnedTo s t ∧ SameControl s t) ∧
    (¬CondTrue cc s.flags → JumpsTo (rowRet cc) s.pc s))

/-! ### Miscellaneous (spec/47_misc.md) -/

/-- R240 to R244: NOP changes nothing; DI and EI write IME alone, at once; HALT and STOP set their
latch alone. STOP's byte is ignored, whatever it is. -/
def Obligations.NopInterruptEnableHaltStop : Prop :=
  ∀ (n : Byte) (s : State),
    (EncodedAs .nop [0x00] ∧ exec .nop s = .next s) ∧
    (EncodedAs .di [0xF3] ∧ exec .di s = .next { s with ime := false }) ∧
    (EncodedAs .ei [0xFB] ∧ exec .ei s = .next { s with ime := true }) ∧
    (EncodedAs .halt [0x76] ∧ exec .halt s = .next { s with halted := true }) ∧
    (EncodedAs (.stop n) [0x10, n] ∧ exec (.stop n) s = .next { s with stopped := true })

/-- R245, R246, R247: CCF, SCF and CPL. -/
def Obligations.FlagAndAccumulatorToggles : Prop :=
  ∀ s : State,
    (EncodedAs .ccf [0x3F] ∧ ∃ t, exec .ccf s = .next t ∧
      t.flags = { z := s.flags.z, n := false, h := false, c := !s.flags.c } ∧
      t.a = s.a ∧ OnlyAccumulator s t) ∧
    (EncodedAs .scf [0x37] ∧ ∃ t, exec .scf s = .next t ∧
      t.flags = { z := s.flags.z, n := false, h := false, c := true } ∧
      t.a = s.a ∧ OnlyAccumulator s t) ∧
    (EncodedAs .cpl [0x2F] ∧ ∃ t, exec .cpl s = .next t ∧ t.a.toNat = 255 - s.a.toNat ∧
      t.flags = { z := s.flags.z, n := true, h := true, c := s.flags.c } ∧ OnlyAccumulator s t)

/-- R248: DAA. After an addition 0x60 and 0x06 are added as the tests say, after a subtraction they are
taken off as C and H say; C is set or left. -/
def Obligations.DecimalAdjust : Prop :=
  EncodedAs .daa [0x27] ∧
  ∀ s : State, ∃ t, exec .daa s = .next t ∧
    (s.flags.n = false →
      t.a = s.a + (if s.flags.c = true ∨ s.a.toNat > 0x99 then 0x60 else 0x00)
        + (if s.flags.h = true ∨ (s.a &&& 0x0F).toNat > 0x09 then 0x06 else 0x00) ∧
      (t.flags.c = true ↔ s.flags.c = true ∨ s.a.toNat > 0x99)) ∧
    (s.flags.n = true →
      t.a = s.a - (if s.flags.c = true then 0x60 else 0x00)
        - (if s.flags.h = true then 0x06 else 0x00) ∧
      t.flags.c = s.flags.c) ∧
    (t.flags.z = true ↔ t.a = 0) ∧ t.flags.n = s.flags.n ∧ t.flags.h = false ∧
    OnlyAccumulator s t

/-- spec/95_test_vectors.md section 4, "DAA closure": two valid BCD bytes added with ADD A,d8 and adjusted
give the BCD sum mod 100, with C when the sum is 100 or more. -/
def Obligations.DecimalAdditionIsCorrect : Prop :=
  ∀ (x y : Nat) (s : State), x < 100 → y < 100 →
    s.a = BitVec.ofNat 8 (x / 10 * 16 + x % 10) →
    ∃ t u, exec (.addAD8 (BitVec.ofNat 8 (y / 10 * 16 + y % 10))) s = .next t ∧
      exec .daa t = .next u ∧
      u.a = BitVec.ofNat 8 ((x + y) % 100 / 10 * 16 + (x + y) % 10) ∧
      (u.flags.c = true ↔ x + y ≥ 100)

/-! ### The exception (spec/60_exceptions.md) and the second table (spec/30_encoding.md R86) -/

/-- R262 for the 11 unimplemented rows (R89): from PC past the opcode byte, PC goes back to it, `fault`
records the byte and that address, and nothing else changes. -/
def Obligations.UnimplementedRowsRaise : Prop :=
  ∀ row ∈ unimplementedRows, ∀ s : State,
    EncodedAs row.2 [row.1] ∧
    exec row.2 s = .next { s with
      pc := s.pc - 1
      fault := some (.unimplementedOpcode [row.1] (s.pc - 1)) }

/-- R262 of a step: the state is exactly the state before, plus the record. The slots are the 11 holes of
the primary table and whatever the build leaves without a descriptor (R89). -/
def Obligations.StepRaisesPrecisely : Prop :=
  ∀ (s : State) (d : Decoded), s.fault = none → fetchDecode s = .ok d →
    (d.slot ∈ s.config.extraUnimplemented ∨
      ∃ row ∈ unimplementedRows, d.slot = .primary row.1) →
    step s = .next { s with fault := some (.unimplementedOpcode (slotBytes d.slot) s.pc) }

/-- R263: a step of a faulted state changes nothing and returns the same record; no instruction clears
`fault`; the reset action does. That the refused step has no next state and answers the outcome `fault`
is the model's choice (DESIGN CHOICE, log entry 1). -/
def Obligations.FaultIsTerminal : Prop :=
  (∀ (s : State) (record : Fault), s.fault = some record → step s = .fault record) ∧
  (∀ (i : Instr) (s t : State), exec i s = .next t → s.fault ≠ none → t.fault ≠ none) ∧
  (∀ s : State, s.resetAction.fault = none)

/-- A step of a state without a fault always has a next state, and that state either records no fault or is
the state before plus an `UnimplementedOpcode` record at its PC (R262, R264). R264 names one further stop,
the model fault `UnwrittenRead` (R281): that no step raises it, because every register holds a value, is
the model's choice (DESIGN CHOICE, log entry 2); that the exception is a next state is log entry 1's. -/
def Obligations.EveryUnfaultedStepCompletes : Prop :=
  ∀ s : State, s.fault = none → ∃ t, step s = .next t ∧
    (t.fault = none ∨
      ∃ slot, t = { s with fault := some (.unimplementedOpcode (slotBytes slot) s.pc) })

/-- The row of slot 0xCB as the model runs it. R86 says 0xCB names no instruction of its own: that its row
has a meaning, the rest of R82 from the state after the first byte, is the model's choice (DESIGN CHOICE,
log entry 10). It fetches op2 and runs slot op2 of the CB table, or raises the exception for a slot the
build leaves without a descriptor. -/
def Obligations.MarkerRunsTheCbTable : Prop :=
  ∀ s : State,
    (.cb (s.load s.pc) ∉ s.config.extraUnimplemented →
      ∃ t, exec .prefixCb s = .next t ∧
        exec (cbLookup (s.load s.pc)) { s with pc := s.pc + 1 } = .next t) ∧
    (.cb (s.load s.pc) ∈ s.config.extraUnimplemented →
      exec .prefixCb s = .next { s with
        pc := s.pc - 1
        fault := some (.unimplementedOpcode [0xCB, s.load s.pc] (s.pc - 1)) })

/-- At a byte 0xCB a step is the row of slot 0xCB, run from the state after that byte. That the row has a
meaning is the model's choice (DESIGN CHOICE, log entry 10); the statement says that this meaning, which
goes through the CB table by fields (R90), and the 256 rows a step runs (R82, R86) are one. -/
def Obligations.StepAtMarkerIsItsRow : Prop :=
  ∀ s : State, s.fault = none → s.load s.pc = 0xCB →
    step s = exec .prefixCb { s with pc := s.pc + 1 }

/-! ### The step (spec/30_encoding.md R82) -/

/-- R82, R84, R85: when the bytes at PC decode to a well-formed instruction whose slot has a descriptor,
the step is that instruction run with PC past its bytes. -/
def Obligations.StepRunsDecodedInstruction : Prop :=
  ∀ (s : State) (d : Decoded), s.fault = none →
    decode [s.load s.pc, s.load (s.pc + 1), s.load (s.pc + 2)] = .ok d →
    d.instr.WellFormed → d.slot ∉ s.config.extraUnimplemented →
    step s = exec d.instr { s with pc := s.pc + BitVec.ofNat 16 d.len }

/-! ### Whole-machine rules -/

/-- The canonical form of memory is kept by every step. -/
def Obligations.StepKeepsMemoryCanonical : Prop :=
  ∀ s t : State, s.mem.wf = true → step s = .next t → t.mem.wf = true

/-- Memory at reset has the canonical form. -/
def Obligations.ResetMemoryIsCanonical : Prop := State.reset.mem.wf = true

/-- R29, R30, R31 of every instruction: only DI, EI and RETI write IME; only HALT sets `halted`, only STOP
sets `stopped`, and nothing clears either; only the unimplemented rows and the marker's exception write
`fault`; nothing writes the parameters of the build (R87). -/
def Obligations.ControlStateWriters : Prop :=
  ∀ (i : Instr) (s t : State), exec i s = .next t →
    (t.ime = s.ime ∨ (i = .di ∧ t.ime = false) ∨ (i = .ei ∧ t.ime = true) ∨
      (i = .reti ∧ t.ime = true)) ∧
    (t.halted = s.halted ∨ (i = .halt ∧ t.halted = true)) ∧
    (t.stopped = s.stopped ∨ (∃ n, i = .stop n) ∧ t.stopped = true) ∧
    (t.fault = s.fault ∨ (∃ row ∈ unimplementedRows, i = row.2) ∨
      (i = .prefixCb ∧ .cb (s.load s.pc) ∈ s.config.extraUnimplemented)) ∧
    t.config = s.config

/-- R29, R30: no instruction reads IME or a latch. A step from a state that differs only in them is a step
to a state that differs only in them, so a latch suspends nothing. -/
def Obligations.OutputsAreNeverRead : Prop :=
  ∀ (s t : State) (ime halted stopped : Bool), step s = .next t →
    ∃ u, step { s with ime := ime, halted := halted, stopped := stopped } = .next u ∧
      { u with ime := t.ime, halted := t.halted, stopped := t.stopped } = t

/-- Decision D13 with R6: FLAG_PROFILE selects N after an 8-bit INC and H and C after ADD SP,e8 and
LD HL,SP+e8, and the profiles agree everywhere else. -/
def Obligations.ProfilesAgreeElsewhere : Prop :=
  ∀ (i : Instr) (s t : State) (profile : FlagProfile),
    (∀ o, i ≠ rowInc o) → (∀ e8, i ≠ .addSpE8 e8) → (∀ e8, i ≠ .ldHlSpE8 e8) →
    exec i s = .next t →
    exec i { s with config := { s.config with flagProfile := profile } } =
      .next { t with config := { s.config with flagProfile := profile } }

/-- R59 (the spec's own inference) of every instruction: only the bytes it stores to may change, at the
addresses `storeAddresses` computes from the state before; an instruction R59 gives no store changes none. -/
def Obligations.OnlyStoredBytesChange : Prop :=
  ∀ (i : Instr) (s t : State), exec i s = .next t →
    SameMemoryBut (· ∈ storeAddresses i s) s t

/-! ### Encoding (spec/30_encoding.md) -/

/-- R91 (the spec's own inference): any three bytes decode to a well-formed instruction of one to three
bytes. The slot is the one the opcode bytes index (R82): the first byte's, or behind 0xCB the second's; so
the record of R260 has these bytes, and the test of R89 is about this slot. -/
def Obligations.DecodingIsTotal : Prop :=
  ∀ (b0 b1 b2 : Byte) (rest : List Byte), ∃ d, decode (b0 :: b1 :: b2 :: rest) = .ok d ∧
    d.instr.WellFormed ∧ 1 ≤ d.len ∧ d.len ≤ 3 ∧
    slotBytes d.slot = (if b0 = 0xCB then [b0, b1] else [b0]) ∧
    d.slot = (if b0 = 0xCB then .cb b1 else .primary b0)

/-- Decoding the bytes of a well-formed instruction gives it back, whatever follows, with every immediate
at every value, and its length is the number of its bytes. -/
def Obligations.DecodeOfEncode : Prop :=
  ∀ (i : Instr) (rest : List Byte), i.WellFormed →
    ∃ d, decode (encode i ++ rest) = .ok d ∧ d.instr = i ∧ d.len = (encode i).length

/-- Encoding what was decoded gives back the bytes that were read: no two encodings share a meaning. -/
def Obligations.EncodeOfDecode : Prop :=
  ∀ (bytes : List Byte) (d : Decoded), decode bytes = .ok d → encode d.instr = bytes.take d.len

/-- Words written out bit by bit from the spec's encodings (R102, R103, R119, R130, R160, R182, R204,
R225, R226) decode to the instruction they stand for. -/
def Obligations.WrittenOutWordsDecode : Prop :=
  decode [0b01001010#8] = .ok { instr := .ldCD, slot := .primary 0x4A, len := 1 } ∧
  decode [0b00011110#8, 0x7F#8] = .ok { instr := .ldED8 0x7F, slot := .primary 0x1E, len := 2 } ∧
  decode [0b00110001#8, 0xFE#8, 0xFF#8] =
    .ok { instr := .ldSpD16 0xFFFE, slot := .primary 0x31, len := 3 } ∧
  decode [0b10011110#8] = .ok { instr := .sbcAAtHl, slot := .primary 0x9E, len := 1 } ∧
  decode [0b00011001#8] = .ok { instr := .addHlDe, slot := .primary 0x19, len := 1 } ∧
  decode [0b11110101#8] = .ok { instr := .pushAf, slot := .primary 0xF5, len := 1 } ∧
  decode [0b11001011#8, 0b01111100#8] = .ok { instr := .bit7H, slot := .cb 0x7C, len := 2 } ∧
  decode [0b00110000#8, 0xFB#8] = .ok { instr := .jrNcE8 0xFB, slot := .primary 0x30, len := 2 } ∧
  decode [0b11001101#8, 0x10#8, 0x02#8] =
    .ok { instr := .callA16 0x0210, slot := .primary 0xCD, len := 3 }

/-! ### Reset, launch and the end of a run (spec/70_reset_and_hazards.md) -/

/-- R280: what the reset action sets, in the reset state and from any state. -/
def Obligations.ResetSetsControlState : Prop :=
  ∀ s : State, ∀ t ∈ [State.reset, s.resetAction],
    t.pc = 0x0000 ∧ t.ime = false ∧ t.halted = false ∧ t.stopped = false ∧ t.fault = none

/-- The model's own reset values (DESIGN CHOICE, log entries 2 and 3; the spec leaves them unspecified):
every data register, flag and SP is 0 and every byte reads 0. -/
def Obligations.ResetModelValues : Prop :=
  (∀ r : Reg8, State.reset.reg8 r = 0) ∧
  State.reset.flags = { z := false, n := false, h := false, c := false } ∧
  State.reset.sp = 0 ∧ ∀ k : Word, State.reset.load k = 0

/-- R281 as far as values go: a launch holds what the preset names and all of its memory, and otherwise
what reset gives (for the items without a reset value in the spec, zero: log entry 2). -/
def Obligations.LaunchAppliesPreset : Prop :=
  ∀ (cfg : Config) (init : InitState), ∃ t, State.launch cfg init = t ∧
    t.a = init.a.getD 0 ∧ t.b = init.b.getD 0 ∧ t.c = init.c.getD 0 ∧ t.d = init.d.getD 0 ∧
    t.e = init.e.getD 0 ∧ t.h = init.h.getD 0 ∧ t.l = init.l.getD 0 ∧
    t.flags.z = init.zFlag.getD false ∧ t.flags.n = init.nFlag.getD false ∧
    t.flags.h = init.hFlag.getD false ∧ t.flags.c = init.cFlag.getD false ∧
    t.sp = init.sp.getD 0 ∧ t.pc = init.pc.getD 0x0000 ∧ t.ime = init.ime.getD false ∧
    t.halted = init.halted.getD false ∧ t.stopped = init.stopped.getD false ∧
    t.fault = none ∧ t.mem = init.mem ∧ t.config = cfg

/-- R287, over a bounded number of steps (`runFor`: DEDUCED, log entry 11). A step that executes HALT or STOP
ends the run, whatever the bound, in a state without a fault, with the latch of the instruction set and PC
after it; a step that sets `fault` ends it as faulted, whatever the bound; after any other step the run goes
on from the state that step left. -/
def Obligations.RunEndsAtHaltOrStop : Prop :=
  ∀ s : State, s.fault = none →
    (endsRun s = true → ∃ t d, step s = .next t ∧ (∀ k, runFor (k + 1) s = .final t) ∧
      fetchDecode s = .ok d ∧ t.fault = none ∧ t.pc = s.pc + BitVec.ofNat 16 d.len ∧
      ((d.instr = .halt ∧ t.halted = true) ∨ (∃ n, d.instr = .stop n) ∧ t.stopped = true)) ∧
    (∀ t, step s = .next t → t.fault ≠ none → ∀ k, runFor (k + 1) s = .faulted t) ∧
    (∀ t, step s = .next t → t.fault = none → endsRun s = false →
      runFor 1 s = .running t ∧ ∀ k, runFor (k + 1) s = runFor k t)
end

