-- ==== Sys2Proof/Laws/Decode.lean ====
section
/-! SUPPORT. The laws of the byte-order helpers (R25, R26, R73), one equation of the decoder for each kind of
descriptor (R87), and the fetch of three bytes (R82, R91). -/

namespace Sys2Proof

/-! ### Byte order -/

theorem hiByte_toNat (w : Word) : (hiByte w).toNat = w.toNat / 256 := by
  have := w.isLt
  simp only [hiByte, BitVec.extractLsb'_toNat, Nat.shiftRight_eq_div_pow]
  omega

theorem loByte_toNat (w : Word) : (loByte w).toNat = w.toNat % 256 := by
  simp [loByte, BitVec.extractLsb'_toNat]

theorem wordOf_toNat (hi lo : Byte) : (wordOf hi lo).toNat = hi.toNat * 256 + lo.toNat := by
  have hlo := lo.isLt
  have h : (wordOf hi lo).toNat = hi.toNat <<< 8 ||| lo.toNat := BitVec.toNat_append hi lo
  rw [h, ← Nat.shiftLeft_add_eq_or_of_lt hlo, Nat.shiftLeft_eq]

@[simp] theorem wordOf_hiByte_loByte (w : Word) : wordOf (hiByte w) (loByte w) = w := by
  apply BitVec.eq_of_toNat_eq
  rw [wordOf_toNat, hiByte_toNat, loByte_toNat]
  omega

@[simp] theorem hiByte_wordOf (hi lo : Byte) : hiByte (wordOf hi lo) = hi := by
  apply BitVec.eq_of_toNat_eq
  have := lo.isLt
  rw [hiByte_toNat, wordOf_toNat]
  omega

@[simp] theorem loByte_wordOf (hi lo : Byte) : loByte (wordOf hi lo) = lo := by
  apply BitVec.eq_of_toNat_eq
  have := lo.isLt
  rw [loByte_toNat, wordOf_toNat]
  omega

/-! ### The decoder by the kind of descriptor -/

theorem decode_plain {op : Byte} {i : Instr} (h : primaryLookup op = .plain i) (rest : List Byte) :
    decode (op :: rest) = .ok { instr := i, slot := .primary op, len := 1 } := by
  simp [decode, h]

theorem decode_imm8 {op : Byte} {f : Byte → Instr} (h : primaryLookup op = .imm8 f) (n : Byte)
    (rest : List Byte) :
    decode (op :: n :: rest) = .ok { instr := f n, slot := .primary op, len := 2 } := by
  simp [decode, h]

theorem decode_imm16 {op : Byte} {f : Word → Instr} (h : primaryLookup op = .imm16 f)
    (lo hi : Byte) (rest : List Byte) :
    decode (op :: lo :: hi :: rest) =
      .ok { instr := f (wordOf hi lo), slot := .primary op, len := 3 } := by
  simp [decode, h]

theorem decode_marker {op : Byte} (h : primaryLookup op = .marker) (op2 : Byte)
    (rest : List Byte) :
    decode (op :: op2 :: rest) = .ok { instr := cbLookup op2, slot := .cb op2, len := 2 } := by
  simp [decode, h]

/-- The marker stands at slot 0xCB alone (R86: "No other byte is a prefix"). -/
theorem primaryLookup_marker_iff (op : Byte) :
    (primaryLookup op matches .marker) = decide (op = 0xCB) := by
  revert op
  decide

/-- Three bytes are enough for every instruction (R70, R91). -/
theorem decode_three_ok (b0 b1 b2 : Byte) (rest : List Byte) :
    ∃ d, decode (b0 :: b1 :: b2 :: rest) = .ok d := by
  cases h : primaryLookup b0 with
  | plain i => exact ⟨_, decode_plain h _⟩
  | imm8 f => exact ⟨_, decode_imm8 h _ _⟩
  | imm16 f => exact ⟨_, decode_imm16 h _ _ _⟩
  | marker => exact ⟨_, decode_marker h _ _⟩

namespace Laws

/-- A fetch always decodes (R91), so `step` never answers `undecodable`. -/
theorem fetchDecode_ok (s : Machine.State) : ∃ d, Machine.fetchDecode s = .ok d :=
  decode_three_ok _ _ _ []

end Laws

end Sys2Proof
end

