-- ==== Sys2Proof/Laws/Flags.lean ====
section
/-! SUPPORT. What the result and flag functions compute, in the arithmetic of bit vectors: the definitions are
in exact integers (R8), these lemmas give the wrapped forms. -/

namespace Sys2Proof.Machine

theorem b2i_eq_toNat (f : Bool) : b2i f = f.toNat := by cases f <;> rfl

/-- The low nibble as a number. -/
theorem lowNibble_toNat (x : Byte) : (x &&& 0x0F).toNat = x.toNat % 16 := by
  rw [BitVec.toNat_and]
  exact Nat.and_two_pow_sub_one_eq_mod x.toNat 4

/-- The low 12 bits as a number. -/
theorem low12_toNat (x : Word) : (x &&& 0x0FFF).toNat = x.toNat % 4096 := by
  rw [BitVec.toNat_and]
  exact Nat.and_two_pow_sub_one_eq_mod x.toNat 12

/-- The low nibble of a 16-bit value as a number. -/
theorem low4_toNat (x : Word) : (x &&& 0x0F).toNat = x.toNat % 16 := by
  rw [BitVec.toNat_and]
  exact Nat.and_two_pow_sub_one_eq_mod x.toNat 4

/-- The low byte of a 16-bit value as a number. -/
theorem low8_toNat (x : Word) : (x &&& 0xFF).toNat = x.toNat % 256 := by
  rw [BitVec.toNat_and]
  exact Nat.and_two_pow_sub_one_eq_mod x.toNat 8

/-! ### Sums and differences -/

theorem addResult_eq (x v : Byte) (cin : Bool) :
    addResult x v cin = x + v + BitVec.ofNat 8 cin.toNat := by
  simp [addResult, b2i_eq_toNat, BitVec.ofNat_add]

theorem subResult_eq (x v : Byte) (cin : Bool) :
    subResult x v cin = x - v - BitVec.ofNat 8 cin.toNat := by
  simp only [subResult, difference, b2i_eq_toNat, sub_eq_add_neg, BitVec.ofInt_add,
    BitVec.ofInt_neg, BitVec.ofInt_natCast, BitVec.ofNat_toNat, BitVec.setWidth_eq]

/-- Z of ADD and ADC is the test of the result for zero (R131, R132). -/
theorem addFlags_z (x v : Byte) (cin : Bool) :
    (addFlags x v cin).z = decide (addResult x v cin = 0) := by
  refine decide_eq_decide.mpr ?_
  rw [← BitVec.toNat_inj, addResult, BitVec.toNat_ofNat]
  rfl

/-- Z of SUB, SBC and CP is the test of the difference for zero (R133, R134, R138). -/
theorem subFlags_z (x v : Byte) (cin : Bool) :
    (subFlags x v cin).z = decide (subResult x v cin = 0) := by
  refine decide_eq_decide.mpr ?_
  rw [← BitVec.toNat_inj, subResult, BitVec.toNat_ofInt]
  change difference x v cin % 256 = 0 ↔ (difference x v cin % 256).toNat = 0
  omega

/-- Adding an integer to a 16-bit value, mod 65536. -/
theorem word_add_ofInt (v : Word) (delta : Int) :
    v + BitVec.ofInt 16 delta = BitVec.ofInt 16 (v.toNat + delta) := by
  simp [BitVec.ofInt_add]

/-- Adding a sign-extended byte is adding its signed value, mod 65536 (R75). -/
theorem word_add_sext16 (v : Word) (e8 : Byte) :
    v + sext16 e8 = BitVec.ofInt 16 (v.toNat + e8.toInt) := by
  rw [← word_add_ofInt]
  rfl

/-- `0xFF00 + n` (R74). -/
theorem highPage_eq (n : Byte) : highPage n = BitVec.ofNat 16 (0xFF00 + n.toNat) := by
  apply BitVec.eq_of_toNat_eq
  have := n.isLt
  rw [highPage, wordOf_toNat, BitVec.toNat_ofNat]
  change 255 * 256 + n.toNat = (65280 + n.toNat) % 65536
  omega

/-! ### INC and DEC (R139, R141) -/

theorem incFlags_h_iff (profile : FlagProfile) (v : Byte) (f : Flags) :
    (incFlags profile v f).h = true ↔ v &&& 0x0F = 0x0F := by
  revert v
  simp only [incFlags]
  decide

theorem decFlags_h_iff (v : Byte) (f : Flags) :
    (decFlags v f).h = true ↔ v &&& 0x0F = 0x00 := by
  revert v
  simp only [decFlags]
  decide

/-! ### Rotates and shifts (R191 to R203) -/

/-- The results of the rotates and shifts as operations on bit vectors. -/
theorem shiftResult_eq (op : ShiftOp) (x : Byte) (cin : Bool) :
    shiftResult op x cin =
      match op with
      | .rlc => x.rotateLeft 1
      | .rrc => x.rotateRight 1
      | .rl => (x <<< 1) ||| BitVec.ofNat 8 cin.toNat
      | .rr => (x >>> 1) ||| (BitVec.ofNat 8 cin.toNat <<< 7)
      | .sla => x <<< 1
      | .sra => x.sshiftRight 1
      | .swap => x.rotateLeft 4
      | .srl => x >>> 1 := by
  revert x
  cases op <;> cases cin <;> decide

/-- `x | (1 << y)` bit by bit (R206). -/
theorem getLsbD_or_bitMask (x : Byte) (y : Fin 8) {k : Nat} (_hk : k < 8) :
    (x ||| bitMask y).getLsbD k = if k = y.val then true else x.getLsbD k := by
  rw [BitVec.getLsbD_or, bitMask, BitVec.getLsbD_ofNat, Nat.testBit_two_pow]
  by_cases h : k = y.val
  · simp [h]
  · simp [h, Ne.symm h]

/-- `x & ~(1 << y)` bit by bit (R205). -/
theorem getLsbD_and_not_bitMask (x : Byte) (y : Fin 8) {k : Nat} (hk : k < 8) :
    (x &&& ~~~bitMask y).getLsbD k = if k = y.val then false else x.getLsbD k := by
  rw [BitVec.getLsbD_and, BitVec.getLsbD_not, bitMask, BitVec.getLsbD_ofNat, Nat.testBit_two_pow]
  by_cases h : k = y.val
  · simp [h]
  · simp [h, hk, Ne.symm h]

/-! ### Decimal adjust (R248) -/

/-- DAA after an addition, in wrapped arithmetic. -/
theorem daaResult_add {f : Flags} (hn : f.n = false) (x : Byte) :
    daaResult x f = x + (if daaHighFix x f then 0x60 else 0x00)
      + (if daaLowFix x f then 0x06 else 0x00) := by
  unfold daaResult daaValue
  rw [hn]
  cases daaHighFix x f <;> cases daaLowFix x f <;> simp [b2i, BitVec.ofInt_add]

/-- DAA after a subtraction, in wrapped arithmetic. -/
theorem daaResult_sub {f : Flags} (hn : f.n = true) (x : Byte) :
    daaResult x f = x - (if f.c then 0x60 else 0x00) - (if f.h then 0x06 else 0x00) := by
  unfold daaResult daaValue
  rw [hn]
  revert x
  simp only [if_true]
  cases f.h <;> cases f.c <;> decide

end Sys2Proof.Machine
end

