-- ==== Sys2Proof/Laws/Memory.lean ====
section
/-! SUPPORT. The laws of memory (spec/20_memory.md R51, R52, R58), for every memory whether canonical or
not, and that every memory operation keeps the canonical form. -/

namespace Sys2Proof.Machine

/-! ### Read after write -/

theorem Memory.readAt_without_same (m : Memory) (k : Nat) :
    Memory.readAt (Memory.without m k) k = Memory.unlisted := by
  induction m with
  | nil => rfl
  | cons cell rest ih =>
    by_cases h : cell.1 = k
    · simp [Memory.without, h, ih]
    · simp [Memory.without, Memory.readAt, h, ih]

theorem Memory.readAt_without_other {k j : Nat} (hjk : j ≠ k) (m : Memory) :
    Memory.readAt (Memory.without m k) j = Memory.readAt m j := by
  induction m with
  | nil => rfl
  | cons cell rest ih =>
    by_cases h : cell.1 = k
    · have : cell.1 ≠ j := fun e => hjk (e.symm.trans h)
      simp [Memory.without, Memory.readAt, h, ih, Ne.symm hjk]
    · by_cases h2 : cell.1 = j <;> simp [Memory.without, Memory.readAt, h, h2, ih, hjk]

theorem Memory.readAt_put_same (m : Memory) (k : Nat) (v : Byte)
    (habs : ∀ cell ∈ m, cell.1 ≠ k) : Memory.readAt (Memory.put m k v) k = v := by
  induction m with
  | nil => simp [Memory.put, Memory.readAt]
  | cons cell rest ih =>
    have hc : cell.1 ≠ k := habs cell (by simp)
    by_cases h : k < cell.1
    · simp [Memory.put, Memory.readAt, h]
    · simp only [Memory.put, h, if_false, Memory.readAt, hc]
      exact ih fun c hcm => habs c (by simp [hcm])

theorem Memory.readAt_put_other {k j : Nat} (hjk : j ≠ k) (m : Memory) (v : Byte) :
    Memory.readAt (Memory.put m k v) j = Memory.readAt m j := by
  induction m with
  | nil => simp [Memory.put, Memory.readAt, Ne.symm hjk]
  | cons cell rest ih =>
    by_cases h : k < cell.1
    · simp [Memory.put, Memory.readAt, h, Ne.symm hjk]
    · by_cases h2 : cell.1 = j
      · rw [Memory.put, if_neg h, Memory.readAt, Memory.readAt, if_pos h2, if_pos h2]
      · rw [Memory.put, if_neg h, Memory.readAt, Memory.readAt, if_neg h2, if_neg h2]
        exact ih

theorem Memory.without_absent (m : Memory) (k : Nat) : ∀ cell ∈ Memory.without m k, cell.1 ≠ k := by
  induction m with
  | nil => simp [Memory.without]
  | cons cell rest ih =>
    by_cases h : cell.1 = k
    · simpa [Memory.without, h] using ih
    · simp only [Memory.without, h, if_false, List.mem_cons, forall_eq_or_imp]
      exact ⟨h, ih⟩

/-- R52: a read of the address written gives the value written. -/
@[simp] theorem Memory.read_write_same (m : Memory) (k : Word) (v : Byte) :
    (m.write k v).read k = v := by
  unfold Memory.write Memory.read
  split
  · next h => rw [Memory.readAt_without_same, h]
  · exact Memory.readAt_put_same _ _ _ (Memory.without_absent _ _)

/-- R58: a write changes only its own byte. -/
theorem Memory.read_write_other {k j : Word} (h : j ≠ k) (m : Memory) (v : Byte) :
    (m.write k v).read j = m.read j := by
  have hn : j.toNat ≠ k.toNat := fun e => h (BitVec.eq_of_toNat_eq e)
  unfold Memory.write Memory.read
  split
  · exact Memory.readAt_without_other hn m
  · rw [Memory.readAt_put_other hn, Memory.readAt_without_other hn]

/-- R52 and R58 together. -/
theorem Memory.read_write (m : Memory) (k j : Word) (v : Byte) :
    (m.write k v).read j = if j = k then v else m.read j := by
  split
  · next h => rw [h, Memory.read_write_same]
  · next h => exact Memory.read_write_other h m v

/-- A store reads back in a state (R52, R58). -/
theorem State.load_store (s : State) (k j : Word) (v : Byte) :
    (s.store k v).load j = if j = k then v else s.load j :=
  Memory.read_write s.mem k j v

@[simp] theorem State.load_store_same (s : State) (k : Word) (v : Byte) :
    (s.store k v).load k = v := Memory.read_write_same s.mem k v

theorem State.load_store_other {k j : Word} (h : j ≠ k) (s : State) (v : Byte) :
    (s.store k v).load j = s.load j := Memory.read_write_other h s.mem v

/-! ### The canonical form -/

theorem Memory.wfFrom_mono {low low' : Nat} (h : low' ≤ low) (m : Memory)
    (hm : Memory.wfFrom low m = true) : Memory.wfFrom low' m = true := by
  cases m with
  | nil => rfl
  | cons cell rest =>
    simp only [Memory.wfFrom, Bool.and_eq_true, decide_eq_true_eq] at hm ⊢
    exact ⟨⟨⟨le_trans h hm.1.1.1, hm.1.1.2⟩, hm.1.2⟩, hm.2⟩

theorem Memory.wfFrom_without (m : Memory) (low k : Nat) (hm : Memory.wfFrom low m = true) :
    Memory.wfFrom low (Memory.without m k) = true := by
  induction m generalizing low with
  | nil => rfl
  | cons cell rest ih =>
    simp only [Memory.wfFrom, Bool.and_eq_true, decide_eq_true_eq] at hm
    by_cases h : cell.1 = k
    · simp only [Memory.without, h, if_true]
      exact ih low (Memory.wfFrom_mono (by omega) rest hm.2)
    · simp only [Memory.without, h, if_false, Memory.wfFrom, Bool.and_eq_true,
        decide_eq_true_eq]
      exact ⟨hm.1, ih _ hm.2⟩

theorem Memory.wfFrom_put (m : Memory) (low k : Nat) (v : Byte) (hm : Memory.wfFrom low m = true)
    (habs : ∀ cell ∈ m, cell.1 ≠ k) (hlow : low ≤ k) (hk : k < 65536)
    (hv : v ≠ Memory.unlisted) : Memory.wfFrom low (Memory.put m k v) = true := by
  induction m generalizing low with
  | nil => simp [Memory.put, Memory.wfFrom, hlow, hk, hv]
  | cons cell rest ih =>
    have hc : cell.1 ≠ k := habs cell (by simp)
    simp only [Memory.wfFrom, Bool.and_eq_true, decide_eq_true_eq] at hm
    by_cases h : k < cell.1
    · simp only [Memory.put, h, if_true, Memory.wfFrom, Bool.and_eq_true, decide_eq_true_eq]
      exact ⟨⟨⟨hlow, hk⟩, hv⟩, ⟨⟨⟨by omega, hm.1.1.2⟩, hm.1.2⟩, hm.2⟩⟩
    · simp only [Memory.put, h, if_false, Memory.wfFrom, Bool.and_eq_true, decide_eq_true_eq]
      exact ⟨hm.1, ih _ hm.2 (fun c hcm => habs c (by simp [hcm])) (by omega)⟩

/-- A write keeps the canonical form. -/
theorem Memory.wf_write (m : Memory) (k : Word) (v : Byte) (hm : m.wf = true) :
    (m.write k v).wf = true := by
  have hw : Memory.wfFrom 0 (Memory.without m k.toNat) = true := Memory.wfFrom_without m 0 _ hm
  unfold Memory.write Memory.wf
  split
  · exact hw
  · next hv =>
    exact Memory.wfFrom_put _ 0 _ v hw (Memory.without_absent m k.toNat) (Nat.zero_le _) k.isLt hv

end Sys2Proof.Machine
end

