-- ==== Sys2Proof/Laws/State.lean ====
section
/-! SUPPORT. One lemma for each field after each named update of State, so that no proof unfolds a record
update, and the read-after-write laws of the registers and pairs. -/

namespace Sys2Proof.Machine

/-! ### `State.store` -/

@[simp] theorem State.store_a (s : State) (k : Word) (v : Byte) : (s.store k v).a = s.a := rfl

@[simp] theorem State.store_b (s : State) (k : Word) (v : Byte) : (s.store k v).b = s.b := rfl

@[simp] theorem State.store_c (s : State) (k : Word) (v : Byte) : (s.store k v).c = s.c := rfl

@[simp] theorem State.store_d (s : State) (k : Word) (v : Byte) : (s.store k v).d = s.d := rfl

@[simp] theorem State.store_e (s : State) (k : Word) (v : Byte) : (s.store k v).e = s.e := rfl

@[simp] theorem State.store_h (s : State) (k : Word) (v : Byte) : (s.store k v).h = s.h := rfl

@[simp] theorem State.store_l (s : State) (k : Word) (v : Byte) : (s.store k v).l = s.l := rfl

@[simp] theorem State.store_flags (s : State) (k : Word) (v : Byte) :
    (s.store k v).flags = s.flags := rfl

@[simp] theorem State.store_sp (s : State) (k : Word) (v : Byte) : (s.store k v).sp = s.sp := rfl

@[simp] theorem State.store_pc (s : State) (k : Word) (v : Byte) : (s.store k v).pc = s.pc := rfl

@[simp] theorem State.store_ime (s : State) (k : Word) (v : Byte) :
    (s.store k v).ime = s.ime := rfl

@[simp] theorem State.store_halted (s : State) (k : Word) (v : Byte) :
    (s.store k v).halted = s.halted := rfl

@[simp] theorem State.store_stopped (s : State) (k : Word) (v : Byte) :
    (s.store k v).stopped = s.stopped := rfl

@[simp] theorem State.store_fault (s : State) (k : Word) (v : Byte) :
    (s.store k v).fault = s.fault := rfl

@[simp] theorem State.store_mem (s : State) (k : Word) (v : Byte) :
    (s.store k v).mem = s.mem.write k v := rfl

@[simp] theorem State.store_config (s : State) (k : Word) (v : Byte) :
    (s.store k v).config = s.config := rfl

@[simp] theorem State.store_reg8 (s : State) (k : Word) (v : Byte) (r : Reg8) :
    (s.store k v).reg8 r = s.reg8 r := by cases r <;> rfl

@[simp] theorem State.store_pair (s : State) (k : Word) (v : Byte) (p : Pair) :
    (s.store k v).pair p = s.pair p := by cases p <;> rfl

/-! ### `State.store16` -/

@[simp] theorem State.store16_a (s : State) (k v : Word) : (s.store16 k v).a = s.a := rfl

@[simp] theorem State.store16_b (s : State) (k v : Word) : (s.store16 k v).b = s.b := rfl

@[simp] theorem State.store16_c (s : State) (k v : Word) : (s.store16 k v).c = s.c := rfl

@[simp] theorem State.store16_d (s : State) (k v : Word) : (s.store16 k v).d = s.d := rfl

@[simp] theorem State.store16_e (s : State) (k v : Word) : (s.store16 k v).e = s.e := rfl

@[simp] theorem State.store16_h (s : State) (k v : Word) : (s.store16 k v).h = s.h := rfl

@[simp] theorem State.store16_l (s : State) (k v : Word) : (s.store16 k v).l = s.l := rfl

@[simp] theorem State.store16_flags (s : State) (k v : Word) :
    (s.store16 k v).flags = s.flags := rfl

@[simp] theorem State.store16_sp (s : State) (k v : Word) : (s.store16 k v).sp = s.sp := rfl

@[simp] theorem State.store16_pc (s : State) (k v : Word) : (s.store16 k v).pc = s.pc := rfl

@[simp] theorem State.store16_ime (s : State) (k v : Word) : (s.store16 k v).ime = s.ime := rfl

@[simp] theorem State.store16_halted (s : State) (k v : Word) :
    (s.store16 k v).halted = s.halted := rfl

@[simp] theorem State.store16_stopped (s : State) (k v : Word) :
    (s.store16 k v).stopped = s.stopped := rfl

@[simp] theorem State.store16_fault (s : State) (k v : Word) :
    (s.store16 k v).fault = s.fault := rfl

@[simp] theorem State.store16_mem (s : State) (k v : Word) :
    (s.store16 k v).mem = (s.mem.write k (loByte v)).write (k + 1) (hiByte v) := rfl

@[simp] theorem State.store16_config (s : State) (k v : Word) :
    (s.store16 k v).config = s.config := rfl

@[simp] theorem State.store16_reg8 (s : State) (k v : Word) (r : Reg8) :
    (s.store16 k v).reg8 r = s.reg8 r := by cases r <;> rfl

@[simp] theorem State.store16_pair (s : State) (k v : Word) (p : Pair) :
    (s.store16 k v).pair p = s.pair p := by cases p <;> rfl

/-! ### `State.setFlags` -/

@[simp] theorem State.setFlags_a (s : State) (f : Flags) : (s.setFlags f).a = s.a := rfl

@[simp] theorem State.setFlags_b (s : State) (f : Flags) : (s.setFlags f).b = s.b := rfl

@[simp] theorem State.setFlags_c (s : State) (f : Flags) : (s.setFlags f).c = s.c := rfl

@[simp] theorem State.setFlags_d (s : State) (f : Flags) : (s.setFlags f).d = s.d := rfl

@[simp] theorem State.setFlags_e (s : State) (f : Flags) : (s.setFlags f).e = s.e := rfl

@[simp] theorem State.setFlags_h (s : State) (f : Flags) : (s.setFlags f).h = s.h := rfl

@[simp] theorem State.setFlags_l (s : State) (f : Flags) : (s.setFlags f).l = s.l := rfl

@[simp] theorem State.setFlags_flags (s : State) (f : Flags) : (s.setFlags f).flags = f := rfl

@[simp] theorem State.setFlags_sp (s : State) (f : Flags) : (s.setFlags f).sp = s.sp := rfl

@[simp] theorem State.setFlags_pc (s : State) (f : Flags) : (s.setFlags f).pc = s.pc := rfl

@[simp] theorem State.setFlags_ime (s : State) (f : Flags) : (s.setFlags f).ime = s.ime := rfl

@[simp] theorem State.setFlags_halted (s : State) (f : Flags) :
    (s.setFlags f).halted = s.halted := rfl

@[simp] theorem State.setFlags_stopped (s : State) (f : Flags) :
    (s.setFlags f).stopped = s.stopped := rfl

@[simp] theorem State.setFlags_fault (s : State) (f : Flags) :
    (s.setFlags f).fault = s.fault := rfl

@[simp] theorem State.setFlags_mem (s : State) (f : Flags) : (s.setFlags f).mem = s.mem := rfl

@[simp] theorem State.setFlags_config (s : State) (f : Flags) :
    (s.setFlags f).config = s.config := rfl

@[simp] theorem State.setFlags_reg8 (s : State) (f : Flags) (r : Reg8) :
    (s.setFlags f).reg8 r = s.reg8 r := by cases r <;> rfl

@[simp] theorem State.setFlags_pair {p : Pair} (h : p ≠ .af) (s : State) (f : Flags) :
    (s.setFlags f).pair p = s.pair p := by
  cases p <;> first | rfl | exact absurd rfl h

@[simp] theorem State.setFlags_load (s : State) (f : Flags) (x : Word) :
    (s.setFlags f).load x = s.load x := rfl

/-! ### `State.setSp` -/

@[simp] theorem State.setSp_a (s : State) (v : Word) : (s.setSp v).a = s.a := rfl

@[simp] theorem State.setSp_b (s : State) (v : Word) : (s.setSp v).b = s.b := rfl

@[simp] theorem State.setSp_c (s : State) (v : Word) : (s.setSp v).c = s.c := rfl

@[simp] theorem State.setSp_d (s : State) (v : Word) : (s.setSp v).d = s.d := rfl

@[simp] theorem State.setSp_e (s : State) (v : Word) : (s.setSp v).e = s.e := rfl

@[simp] theorem State.setSp_h (s : State) (v : Word) : (s.setSp v).h = s.h := rfl

@[simp] theorem State.setSp_l (s : State) (v : Word) : (s.setSp v).l = s.l := rfl

@[simp] theorem State.setSp_flags (s : State) (v : Word) : (s.setSp v).flags = s.flags := rfl

@[simp] theorem State.setSp_sp (s : State) (v : Word) : (s.setSp v).sp = v := rfl

@[simp] theorem State.setSp_pc (s : State) (v : Word) : (s.setSp v).pc = s.pc := rfl

@[simp] theorem State.setSp_ime (s : State) (v : Word) : (s.setSp v).ime = s.ime := rfl

@[simp] theorem State.setSp_halted (s : State) (v : Word) : (s.setSp v).halted = s.halted := rfl

@[simp] theorem State.setSp_stopped (s : State) (v : Word) : (s.setSp v).stopped = s.stopped := rfl

@[simp] theorem State.setSp_fault (s : State) (v : Word) : (s.setSp v).fault = s.fault := rfl

@[simp] theorem State.setSp_mem (s : State) (v : Word) : (s.setSp v).mem = s.mem := rfl

@[simp] theorem State.setSp_config (s : State) (v : Word) : (s.setSp v).config = s.config := rfl

@[simp] theorem State.setSp_reg8 (s : State) (v : Word) (r : Reg8) :
    (s.setSp v).reg8 r = s.reg8 r := by cases r <;> rfl

@[simp] theorem State.setSp_pair (s : State) (v : Word) (p : Pair) :
    (s.setSp v).pair p = s.pair p := by cases p <;> rfl

@[simp] theorem State.setSp_load (s : State) (v : Word) (x : Word) :
    (s.setSp v).load x = s.load x := rfl

/-! ### `State.setPc` -/

@[simp] theorem State.setPc_a (s : State) (v : Word) : (s.setPc v).a = s.a := rfl

@[simp] theorem State.setPc_b (s : State) (v : Word) : (s.setPc v).b = s.b := rfl

@[simp] theorem State.setPc_c (s : State) (v : Word) : (s.setPc v).c = s.c := rfl

@[simp] theorem State.setPc_d (s : State) (v : Word) : (s.setPc v).d = s.d := rfl

@[simp] theorem State.setPc_e (s : State) (v : Word) : (s.setPc v).e = s.e := rfl

@[simp] theorem State.setPc_h (s : State) (v : Word) : (s.setPc v).h = s.h := rfl

@[simp] theorem State.setPc_l (s : State) (v : Word) : (s.setPc v).l = s.l := rfl

@[simp] theorem State.setPc_flags (s : State) (v : Word) : (s.setPc v).flags = s.flags := rfl

@[simp] theorem State.setPc_sp (s : State) (v : Word) : (s.setPc v).sp = s.sp := rfl

@[simp] theorem State.setPc_pc (s : State) (v : Word) : (s.setPc v).pc = v := rfl

@[simp] theorem State.setPc_ime (s : State) (v : Word) : (s.setPc v).ime = s.ime := rfl

@[simp] theorem State.setPc_halted (s : State) (v : Word) : (s.setPc v).halted = s.halted := rfl

@[simp] theorem State.setPc_stopped (s : State) (v : Word) : (s.setPc v).stopped = s.stopped := rfl

@[simp] theorem State.setPc_fault (s : State) (v : Word) : (s.setPc v).fault = s.fault := rfl

@[simp] theorem State.setPc_mem (s : State) (v : Word) : (s.setPc v).mem = s.mem := rfl

@[simp] theorem State.setPc_config (s : State) (v : Word) : (s.setPc v).config = s.config := rfl

@[simp] theorem State.setPc_reg8 (s : State) (v : Word) (r : Reg8) :
    (s.setPc v).reg8 r = s.reg8 r := by cases r <;> rfl

@[simp] theorem State.setPc_pair (s : State) (v : Word) (p : Pair) :
    (s.setPc v).pair p = s.pair p := by cases p <;> rfl

@[simp] theorem State.setPc_load (s : State) (v : Word) (x : Word) :
    (s.setPc v).load x = s.load x := rfl

/-! ### `State.push16` -/

@[simp] theorem State.push16_a (s : State) (v : Word) : (s.push16 v).a = s.a := rfl

@[simp] theorem State.push16_b (s : State) (v : Word) : (s.push16 v).b = s.b := rfl

@[simp] theorem State.push16_c (s : State) (v : Word) : (s.push16 v).c = s.c := rfl

@[simp] theorem State.push16_d (s : State) (v : Word) : (s.push16 v).d = s.d := rfl

@[simp] theorem State.push16_e (s : State) (v : Word) : (s.push16 v).e = s.e := rfl

@[simp] theorem State.push16_h (s : State) (v : Word) : (s.push16 v).h = s.h := rfl

@[simp] theorem State.push16_l (s : State) (v : Word) : (s.push16 v).l = s.l := rfl

@[simp] theorem State.push16_flags (s : State) (v : Word) : (s.push16 v).flags = s.flags := rfl

@[simp] theorem State.push16_sp (s : State) (v : Word) : (s.push16 v).sp = s.sp - 2 := rfl

@[simp] theorem State.push16_pc (s : State) (v : Word) : (s.push16 v).pc = s.pc := rfl

@[simp] theorem State.push16_ime (s : State) (v : Word) : (s.push16 v).ime = s.ime := rfl

@[simp] theorem State.push16_halted (s : State) (v : Word) : (s.push16 v).halted = s.halted := rfl

@[simp] theorem State.push16_stopped (s : State) (v : Word) :
    (s.push16 v).stopped = s.stopped := rfl

@[simp] theorem State.push16_fault (s : State) (v : Word) : (s.push16 v).fault = s.fault := rfl

@[simp] theorem State.push16_mem (s : State) (v : Word) :
    (s.push16 v).mem = (s.mem.write (s.sp - 1) (hiByte v)).write (s.sp - 2) (loByte v) := rfl

@[simp] theorem State.push16_config (s : State) (v : Word) : (s.push16 v).config = s.config := rfl

@[simp] theorem State.push16_reg8 (s : State) (v : Word) (r : Reg8) :
    (s.push16 v).reg8 r = s.reg8 r := by cases r <;> rfl

@[simp] theorem State.push16_pair (s : State) (v : Word) (p : Pair) :
    (s.push16 v).pair p = s.pair p := by cases p <;> rfl

/-! ### `State.drop16` -/

@[simp] theorem State.drop16_a (s : State) : s.drop16.a = s.a := rfl

@[simp] theorem State.drop16_b (s : State) : s.drop16.b = s.b := rfl

@[simp] theorem State.drop16_c (s : State) : s.drop16.c = s.c := rfl

@[simp] theorem State.drop16_d (s : State) : s.drop16.d = s.d := rfl

@[simp] theorem State.drop16_e (s : State) : s.drop16.e = s.e := rfl

@[simp] theorem State.drop16_h (s : State) : s.drop16.h = s.h := rfl

@[simp] theorem State.drop16_l (s : State) : s.drop16.l = s.l := rfl

@[simp] theorem State.drop16_flags (s : State) : s.drop16.flags = s.flags := rfl

@[simp] theorem State.drop16_sp (s : State) : s.drop16.sp = s.sp + 2 := rfl

@[simp] theorem State.drop16_pc (s : State) : s.drop16.pc = s.pc := rfl

@[simp] theorem State.drop16_ime (s : State) : s.drop16.ime = s.ime := rfl

@[simp] theorem State.drop16_halted (s : State) : s.drop16.halted = s.halted := rfl

@[simp] theorem State.drop16_stopped (s : State) : s.drop16.stopped = s.stopped := rfl

@[simp] theorem State.drop16_fault (s : State) : s.drop16.fault = s.fault := rfl

@[simp] theorem State.drop16_mem (s : State) : s.drop16.mem = s.mem := rfl

@[simp] theorem State.drop16_config (s : State) : s.drop16.config = s.config := rfl

@[simp] theorem State.drop16_reg8 (s : State) (r : Reg8) :
    s.drop16.reg8 r = s.reg8 r := by cases r <;> rfl

@[simp] theorem State.drop16_pair (s : State) (p : Pair) :
    s.drop16.pair p = s.pair p := by cases p <;> rfl

@[simp] theorem State.drop16_load (s : State) (x : Word) : s.drop16.load x = s.load x := rfl

/-! ### `State.advance` -/

@[simp] theorem State.advance_a (s : State) (n : Nat) : (s.advance n).a = s.a := rfl

@[simp] theorem State.advance_b (s : State) (n : Nat) : (s.advance n).b = s.b := rfl

@[simp] theorem State.advance_c (s : State) (n : Nat) : (s.advance n).c = s.c := rfl

@[simp] theorem State.advance_d (s : State) (n : Nat) : (s.advance n).d = s.d := rfl

@[simp] theorem State.advance_e (s : State) (n : Nat) : (s.advance n).e = s.e := rfl

@[simp] theorem State.advance_h (s : State) (n : Nat) : (s.advance n).h = s.h := rfl

@[simp] theorem State.advance_l (s : State) (n : Nat) : (s.advance n).l = s.l := rfl

@[simp] theorem State.advance_flags (s : State) (n : Nat) : (s.advance n).flags = s.flags := rfl

@[simp] theorem State.advance_sp (s : State) (n : Nat) : (s.advance n).sp = s.sp := rfl

@[simp] theorem State.advance_pc (s : State) (n : Nat) :
    (s.advance n).pc = s.pc + BitVec.ofNat 16 n := rfl

@[simp] theorem State.advance_ime (s : State) (n : Nat) : (s.advance n).ime = s.ime := rfl

@[simp] theorem State.advance_halted (s : State) (n : Nat) : (s.advance n).halted = s.halted := rfl

@[simp] theorem State.advance_stopped (s : State) (n : Nat) :
    (s.advance n).stopped = s.stopped := rfl

@[simp] theorem State.advance_fault (s : State) (n : Nat) : (s.advance n).fault = s.fault := rfl

@[simp] theorem State.advance_mem (s : State) (n : Nat) : (s.advance n).mem = s.mem := rfl

@[simp] theorem State.advance_config (s : State) (n : Nat) : (s.advance n).config = s.config := rfl

@[simp] theorem State.advance_reg8 (s : State) (n : Nat) (r : Reg8) :
    (s.advance n).reg8 r = s.reg8 r := by cases r <;> rfl

@[simp] theorem State.advance_pair (s : State) (n : Nat) (p : Pair) :
    (s.advance n).pair p = s.pair p := by cases p <;> rfl

@[simp] theorem State.advance_load (s : State) (n : Nat) (x : Word) :
    (s.advance n).load x = s.load x := rfl

/-! ### `State.setReg8` -/

@[simp] theorem State.setReg8_flags (s : State) (r : Reg8) (v : Byte) :
    (s.setReg8 r v).flags = s.flags := by cases r <;> rfl

@[simp] theorem State.setReg8_sp (s : State) (r : Reg8) (v : Byte) :
    (s.setReg8 r v).sp = s.sp := by cases r <;> rfl

@[simp] theorem State.setReg8_pc (s : State) (r : Reg8) (v : Byte) :
    (s.setReg8 r v).pc = s.pc := by cases r <;> rfl

@[simp] theorem State.setReg8_ime (s : State) (r : Reg8) (v : Byte) :
    (s.setReg8 r v).ime = s.ime := by cases r <;> rfl

@[simp] theorem State.setReg8_halted (s : State) (r : Reg8) (v : Byte) :
    (s.setReg8 r v).halted = s.halted := by cases r <;> rfl

@[simp] theorem State.setReg8_stopped (s : State) (r : Reg8) (v : Byte) :
    (s.setReg8 r v).stopped = s.stopped := by cases r <;> rfl

@[simp] theorem State.setReg8_fault (s : State) (r : Reg8) (v : Byte) :
    (s.setReg8 r v).fault = s.fault := by cases r <;> rfl

@[simp] theorem State.setReg8_mem (s : State) (r : Reg8) (v : Byte) :
    (s.setReg8 r v).mem = s.mem := by cases r <;> rfl

@[simp] theorem State.setReg8_config (s : State) (r : Reg8) (v : Byte) :
    (s.setReg8 r v).config = s.config := by cases r <;> rfl

@[simp] theorem State.setReg8_load (s : State) (r : Reg8) (v : Byte) (x : Word) :
    (s.setReg8 r v).load x = s.load x := by cases r <;> rfl

/-- R21: a register reads as the value last written to it, and no other register changes. -/
theorem State.reg8_setReg8 (s : State) (r x : Reg8) (v : Byte) :
    (s.setReg8 r v).reg8 x = if x = r then v else s.reg8 x := by
  cases r <;> cases x <;> rfl

@[simp] theorem State.reg8_setReg8_same (s : State) (r : Reg8) (v : Byte) :
    (s.setReg8 r v).reg8 r = v := by cases r <;> rfl

theorem State.reg8_setReg8_other {r x : Reg8} (h : x ≠ r) (s : State) (v : Byte) :
    (s.setReg8 r v).reg8 x = s.reg8 x := by
  rw [State.reg8_setReg8, if_neg h]

/-! ### `State.setPair` -/

@[simp] theorem State.setPair_sp (s : State) (p : Pair) (v : Word) :
    (s.setPair p v).sp = s.sp := by cases p <;> rfl

@[simp] theorem State.setPair_pc (s : State) (p : Pair) (v : Word) :
    (s.setPair p v).pc = s.pc := by cases p <;> rfl

@[simp] theorem State.setPair_ime (s : State) (p : Pair) (v : Word) :
    (s.setPair p v).ime = s.ime := by cases p <;> rfl

@[simp] theorem State.setPair_halted (s : State) (p : Pair) (v : Word) :
    (s.setPair p v).halted = s.halted := by cases p <;> rfl

@[simp] theorem State.setPair_stopped (s : State) (p : Pair) (v : Word) :
    (s.setPair p v).stopped = s.stopped := by cases p <;> rfl

@[simp] theorem State.setPair_fault (s : State) (p : Pair) (v : Word) :
    (s.setPair p v).fault = s.fault := by cases p <;> rfl

@[simp] theorem State.setPair_mem (s : State) (p : Pair) (v : Word) :
    (s.setPair p v).mem = s.mem := by cases p <;> rfl

@[simp] theorem State.setPair_config (s : State) (p : Pair) (v : Word) :
    (s.setPair p v).config = s.config := by cases p <;> rfl

@[simp] theorem State.setPair_load (s : State) (p : Pair) (v x : Word) :
    (s.setPair p v).load x = s.load x := by cases p <;> rfl

/-- R26: writing a pair other than AF changes no flag. -/
theorem State.setPair_flags {p : Pair} (h : p ≠ .af) (s : State) (v : Word) :
    (s.setPair p v).flags = s.flags := by
  cases p <;> first | rfl | exact absurd rfl h

@[simp] theorem State.setPair_af_flags (s : State) (v : Word) :
    (s.setPair .af v).flags = flagsOfByte (loByte v) := rfl

/-! ### Views -/

@[simp] theorem State.load_eq (s : State) (k : Word) : s.mem.read k = s.load k := rfl

@[simp] theorem State.read8_reg (s : State) (r : Reg8) : s.read8 (.reg r) = s.reg8 r := rfl

@[simp] theorem State.read8_atHl (s : State) : s.read8 .atHl = s.load (s.pair .hl) := rfl

@[simp] theorem State.write8_reg (s : State) (r : Reg8) (v : Byte) :
    s.write8 (.reg r) v = s.setReg8 r v := rfl

@[simp] theorem State.write8_atHl (s : State) (v : Byte) :
    s.write8 .atHl v = s.store (s.pair .hl) v := rfl

/-! ### `State.write8` -/

@[simp] theorem State.write8_flags (s : State) (o : Opnd8) (v : Byte) :
    (s.write8 o v).flags = s.flags := by
  cases o <;> simp

@[simp] theorem State.write8_sp (s : State) (o : Opnd8) (v : Byte) :
    (s.write8 o v).sp = s.sp := by
  cases o <;> simp

@[simp] theorem State.write8_pc (s : State) (o : Opnd8) (v : Byte) :
    (s.write8 o v).pc = s.pc := by
  cases o <;> simp

@[simp] theorem State.write8_ime (s : State) (o : Opnd8) (v : Byte) :
    (s.write8 o v).ime = s.ime := by
  cases o <;> simp

@[simp] theorem State.write8_halted (s : State) (o : Opnd8) (v : Byte) :
    (s.write8 o v).halted = s.halted := by
  cases o <;> simp

@[simp] theorem State.write8_stopped (s : State) (o : Opnd8) (v : Byte) :
    (s.write8 o v).stopped = s.stopped := by
  cases o <;> simp

@[simp] theorem State.write8_fault (s : State) (o : Opnd8) (v : Byte) :
    (s.write8 o v).fault = s.fault := by
  cases o <;> simp

@[simp] theorem State.write8_config (s : State) (o : Opnd8) (v : Byte) :
    (s.write8 o v).config = s.config := by
  cases o <;> simp

/-! ### `State.write16` -/

@[simp] theorem State.write16_flags (s : State) (r : Reg16) (v : Word) :
    (s.write16 r v).flags = s.flags := by
  cases r <;> rfl

@[simp] theorem State.write16_pc (s : State) (r : Reg16) (v : Word) :
    (s.write16 r v).pc = s.pc := by
  cases r <;> rfl

@[simp] theorem State.write16_ime (s : State) (r : Reg16) (v : Word) :
    (s.write16 r v).ime = s.ime := by
  cases r <;> rfl

@[simp] theorem State.write16_halted (s : State) (r : Reg16) (v : Word) :
    (s.write16 r v).halted = s.halted := by
  cases r <;> rfl

@[simp] theorem State.write16_stopped (s : State) (r : Reg16) (v : Word) :
    (s.write16 r v).stopped = s.stopped := by
  cases r <;> rfl

@[simp] theorem State.write16_fault (s : State) (r : Reg16) (v : Word) :
    (s.write16 r v).fault = s.fault := by
  cases r <;> rfl

@[simp] theorem State.write16_mem (s : State) (r : Reg16) (v : Word) :
    (s.write16 r v).mem = s.mem := by
  cases r <;> rfl

@[simp] theorem State.write16_config (s : State) (r : Reg16) (v : Word) :
    (s.write16 r v).config = s.config := by
  cases r <;> rfl

@[simp] theorem State.write16_load (s : State) (r : Reg16) (v x : Word) :
    (s.write16 r v).load x = s.load x := by cases r <;> rfl

end Sys2Proof.Machine
end

