-- ==== Sys2Proof/Laws/Ops.lean ====
section
/-! SUPPORT. What each shared operation over state does: the pairs, F, the stack, the 8-bit and 16-bit
operands, and the shared operations of the instruction families, one lemma each. -/

namespace Sys2Proof.Machine

/-! ### Pairs and F (R22 to R26) -/

/-- R22, R23: the flags written from the byte F reads as are the flags. -/
@[simp] theorem flagsOfByte_flagByte (s : State) : flagsOfByte s.flagByte = s.flags := by
  rcases hf : s.flags with ⟨z, n, h, c⟩
  simp only [State.flagByte, hf]
  cases z <;> cases n <;> cases h <;> cases c <;> rfl

/-- R26: a pair other than AF reads as the value written to it. -/
theorem State.pair_setPair {p : Pair} (hp : p ≠ .af) (s : State) (v : Word) :
    (s.setPair p v).pair p = v := by
  cases p <;> first | exact wordOf_hiByte_loByte v | exact absurd rfl hp

/-- R26: writing a pair leaves every register that is no half of it. -/
theorem State.setPair_reg8_other {p : Pair} {r : Reg8} (h : ¬HalfOf p r) (s : State) (v : Word) :
    (s.setPair p v).reg8 r = s.reg8 r := by
  cases p <;> cases r <;> first | rfl | simp [HalfOf] at h

/-- R77, R78: a 16-bit operand reads as the value written to it. -/
@[simp] theorem State.read16_write16 (s : State) (r : Reg16) (v : Word) :
    (s.write16 r v).read16 r = v := by
  cases r <;> first | rfl | exact wordOf_hiByte_loByte v

/-- R78: writing a 16-bit operand leaves every register that is no half of it. -/
theorem State.write16_reg8_other {r : Reg16} {x : Reg8} (h : ¬HalfOf16 r x) (s : State)
    (v : Word) : (s.write16 r v).reg8 x = s.reg8 x := by
  cases r <;> cases x <;> first | rfl | simp [HalfOf16] at h

theorem State.write16_sp_other {r : Reg16} (h : r ≠ .sp) (s : State) (v : Word) :
    (s.write16 r v).sp = s.sp := by
  cases r <;> first | rfl | exact absurd rfl h

/-! ### 8-bit operands (R77) -/

/-- R77: an 8-bit operand reads as the value written to it. For the byte at HL the address is the same
before and after. -/
@[simp] theorem State.read8_write8 (s : State) (o : Opnd8) (v : Byte) :
    (s.write8 o v).read8 o = v := by
  cases o <;> simp

/-- R77: writing an operand leaves every register it does not name. -/
theorem State.write8_reg8_other {o : Opnd8} {r : Reg8} (h : ¬OperandReg o r) (s : State)
    (v : Byte) : (s.write8 o v).reg8 r = s.reg8 r := by
  cases o with
  | reg x => exact State.reg8_setReg8_other (fun e => h (by rw [e]; rfl)) s v
  | atHl => simp

/-- R77: writing an operand leaves every byte it is not. -/
theorem State.write8_load_other {o : Opnd8} {k : Word} {s : State} (h : ¬OperandByte s o k)
    (v : Byte) : (s.write8 o v).load k = s.load k := by
  cases o with
  | reg x => simp
  | atHl => exact State.load_store_other (fun e => h ⟨rfl, e⟩) s v

/-- The flags do not change what an 8-bit operand reads as. -/
@[simp] theorem State.setFlags_read8 (s : State) (f : Flags) (o : Opnd8) :
    (s.setFlags f).read8 o = s.read8 o := by
  cases o <;> simp

/-- Writing an operand and the flags leaves everything else (the frame of INC, DEC and the CB forms). -/
theorem onlyOperand_write8_setFlags (s : State) (o : Opnd8) (v : Byte) (f : Flags) :
    OnlyOperand o s ((s.write8 o v).setFlags f) := by
  refine ⟨fun r h => ?_, fun k h => ?_, ?_, ?_, ?_⟩
  · simpa using State.write8_reg8_other h s v
  · simpa using State.write8_load_other h v
  · simp
  · simp
  · simp [SameControl]

/-- Writing an operand alone leaves everything else. -/
theorem onlyOperand_write8 (s : State) (o : Opnd8) (v : Byte) :
    OnlyOperand o s (s.write8 o v) := by
  refine ⟨fun r h => State.write8_reg8_other h s v, fun k h => State.write8_load_other h v, ?_, ?_, ?_⟩
  · simp
  · simp
  · simp [SameControl]

/-- Writing a 16-bit operand leaves everything else. -/
theorem onlyReg16_write16 (s : State) (r : Reg16) (v : Word) :
    OnlyReg16 r v s (s.write16 r v) := by
  refine ⟨by simp, fun x h => State.write16_reg8_other h s v,
    fun h => State.write16_sp_other h s v, by simp, fun k => by simp, by simp [SameControl]⟩

/-- Writing A and the flags leaves everything else. -/
theorem onlyAccumulator_update (s : State) (v : Byte) (f : Flags) :
    OnlyAccumulator s { s with a := v, flags := f } := by
  refine ⟨fun r h => ?_, rfl, rfl, fun _ => rfl, rfl, rfl, rfl, rfl, rfl⟩
  cases r <;> first | rfl | exact absurd rfl h

/-! ### The stack (R180, R181) -/

theorem sub_one_ne_sub_two (v : Word) : v - 1 ≠ v - 2 := by
  bv_omega

theorem sub_two_add_one (v : Word) : v - 2 + 1 = v - 1 := by
  bv_omega

theorem sub_two_add_two (v : Word) : v - 2 + 2 = v := by
  bv_omega

theorem word_add_one_ne (v : Word) : v + 1 ≠ v := by
  bv_omega

/-- R180: what memory reads as after a push. -/
theorem State.load_push16 (s : State) (v k : Word) :
    (s.push16 v).load k =
      if k = s.sp - 2 then loByte v else if k = s.sp - 1 then hiByte v else s.load k := by
  simp only [State.push16, State.setSp_load, State.load_store]

/-- R180 and R181: the value on top after a push is the value pushed. -/
@[simp] theorem State.top16_push16 (s : State) (v : Word) : (s.push16 v).top16 = v := by
  rw [State.top16, State.push16_sp, sub_two_add_one, State.load_push16, State.load_push16,
    if_neg (sub_one_ne_sub_two s.sp), if_pos rfl, if_pos rfl, wordOf_hiByte_loByte]

/-- R55: what memory reads as after a 16-bit store. -/
theorem State.load_store16 (s : State) (addr v k : Word) :
    (s.store16 addr v).load k =
      if k = addr + 1 then hiByte v else if k = addr then loByte v else s.load k := by
  simp only [State.store16, State.load_store]

/-! ### The canonical form of memory under the operations -/

theorem State.store_wf (s : State) (k : Word) (v : Byte) (h : s.mem.wf = true) :
    (s.store k v).mem.wf = true := Memory.wf_write _ _ _ h

theorem State.store16_wf (s : State) (k v : Word) (h : s.mem.wf = true) :
    (s.store16 k v).mem.wf = true := Memory.wf_write _ _ _ (Memory.wf_write _ _ _ h)

theorem State.push16_wf (s : State) (v : Word) (h : s.mem.wf = true) :
    (s.push16 v).mem.wf = true := Memory.wf_write _ _ _ (Memory.wf_write _ _ _ h)

theorem State.write8_wf (s : State) (o : Opnd8) (v : Byte) (h : s.mem.wf = true) :
    (s.write8 o v).mem.wf = true := by
  cases o with
  | reg r => simpa using h
  | atHl => exact State.store_wf _ _ _ h

theorem State.withFetchWord_wf (s : State) (nbits w : Nat) (h : s.mem.wf = true) :
    (s.withFetchWord nbits w).mem.wf = true :=
  State.store_wf _ _ _ (State.store_wf _ _ _ (State.store_wf _ _ _ h))

/-! ### The shared operations of the families, one lemma each -/

/-- `opLd`: the destination reads as the source read before; nothing else changes (R101, R102). -/
theorem opLd_spec (dst src : Opnd8) (s : State) :
    (opLd dst src s).read8 dst = s.read8 src ∧ (opLd dst src s).flags = s.flags ∧
      OnlyOperand dst s (opLd dst src s) :=
  ⟨State.read8_write8 _ _ _, by simp [opLd], onlyOperand_write8 _ _ _⟩

/-- `opLdImm`: the destination reads as the immediate (R103, R106). -/
theorem opLdImm_spec (dst : Opnd8) (n : Byte) (s : State) :
    (opLdImm dst n s).read8 dst = n ∧ (opLdImm dst n s).flags = s.flags ∧
      OnlyOperand dst s (opLdImm dst n s) :=
  ⟨State.read8_write8 _ _ _, by simp [opLdImm], onlyOperand_write8 _ _ _⟩

/-- `opLoadA`: A is the byte at the address; nothing else changes (R107 to R113). -/
theorem opLoadA_spec (addr : Word) (s : State) :
    (opLoadA addr s).a = s.load addr ∧ (opLoadA addr s).flags = s.flags ∧
      OnlyAccumulator s (opLoadA addr s) :=
  ⟨rfl, rfl, onlyAccumulator_update s (s.load addr) s.flags⟩

/-- `opStoreA`: the byte at the address is A; nothing else changes (R108 to R114). -/
theorem opStoreA_spec (addr : Word) (s : State) :
    (opStoreA addr s).load addr = s.a ∧ SameMemoryBut (· = addr) s (opStoreA addr s) ∧
      SameRegs s (opStoreA addr s) ∧ (opStoreA addr s).flags = s.flags ∧
      (opStoreA addr s).sp = s.sp ∧ (opStoreA addr s).pc = s.pc ∧
      SameControl s (opStoreA addr s) :=
  ⟨State.load_store_same _ _ _, fun _ h => State.load_store_other h _ _,
    fun r => by simp [opStoreA], rfl, rfl, rfl, rfl, rfl, rfl, rfl, rfl⟩

/-- `opAlu`: A and the flags are the operation's; nothing else changes (R130 to R138). -/
theorem opAlu_spec (op : AluOp) (src : AluSrc) (s : State) :
    (opAlu op src s).a = aluResult op s.a (s.aluOperand src) s.flags ∧
      (opAlu op src s).flags = aluFlags op s.a (s.aluOperand src) s.flags ∧
      OnlyAccumulator s (opAlu op src s) :=
  ⟨rfl, rfl, onlyAccumulator_update _ _ _⟩

/-- `opInc`: the operand and the flags are INC's; nothing else changes (R139, R140). -/
theorem opInc_spec (o : Opnd8) (s : State) :
    (opInc o s).read8 o = incResult (s.read8 o) ∧
      (opInc o s).flags = incFlags s.config.flagProfile (s.read8 o) s.flags ∧
      OnlyOperand o s (opInc o s) :=
  ⟨by simp [opInc], rfl, onlyOperand_write8_setFlags _ _ _ _⟩

/-- `opDec`: the operand and the flags are DEC's; nothing else changes (R141, R142). -/
theorem opDec_spec (o : Opnd8) (s : State) :
    (opDec o s).read8 o = decResult (s.read8 o) ∧ (opDec o s).flags = decFlags (s.read8 o) s.flags ∧
      OnlyOperand o s (opDec o s) :=
  ⟨by simp [opDec], rfl, onlyOperand_write8_setFlags _ _ _ _⟩

/-- `opShift`: the operand and the flags are the shift's; nothing else changes (R195 to R203). -/
theorem opShift_spec (op : ShiftOp) (o : Opnd8) (s : State) :
    (opShift op o s).read8 o = shiftResult op (s.read8 o) s.flags.c ∧
      (opShift op o s).flags = shiftFlags op (s.read8 o) s.flags.c ∧
      OnlyOperand o s (opShift op o s) :=
  ⟨by simp [opShift], rfl, onlyOperand_write8_setFlags _ _ _ _⟩

/-- `opRes`: the operand with the bit cleared; nothing else changes (R205). -/
theorem opRes_spec (y : Fin 8) (o : Opnd8) (s : State) :
    (opRes y o s).read8 o = s.read8 o &&& ~~~bitMask y ∧ (opRes y o s).flags = s.flags ∧
      OnlyOperand o s (opRes y o s) :=
  ⟨State.read8_write8 _ _ _, by simp [opRes], onlyOperand_write8 _ _ _⟩

/-- `opSet`: the operand with the bit set; nothing else changes (R206). -/
theorem opSet_spec (y : Fin 8) (o : Opnd8) (s : State) :
    (opSet y o s).read8 o = s.read8 o ||| bitMask y ∧ (opSet y o s).flags = s.flags ∧
      OnlyOperand o s (opSet y o s) :=
  ⟨State.read8_write8 _ _ _, by simp [opSet], onlyOperand_write8 _ _ _⟩

/-- `opCall`: next is pushed, PC is the target; nothing else changes (R226, R231). -/
theorem opCall_spec (nn : Word) (s : State) :
    (opCall nn s).pc = nn ∧ (opCall nn s).sp = s.sp - 2 ∧
      (opCall nn s).load (s.sp - 2) = loByte s.pc ∧
      (opCall nn s).load (s.sp - 1) = hiByte s.pc ∧
      SameMemoryBut (fun k => k = s.sp - 1 ∨ k = s.sp - 2) s (opCall nn s) ∧
      SameRegs s (opCall nn s) ∧ (opCall nn s).flags = s.flags ∧ SameControl s (opCall nn s) := by
  refine ⟨by simp [opCall], by simp [opCall], ?_, ?_, fun k hk => ?_, fun r => by simp [opCall],
    by simp [opCall], by simp [SameControl, opCall]⟩
  · rw [opCall, State.setPc_load, State.load_push16, if_pos rfl]
  · rw [opCall, State.setPc_load, State.load_push16, if_neg (sub_one_ne_sub_two s.sp), if_pos rfl]
  · rw [not_or] at hk
    rw [opCall, State.setPc_load, State.load_push16, if_neg hk.2, if_neg hk.1]

/-- `opRet`: PC is popped; nothing but PC and SP changes (R228). -/
theorem opRet_spec (s : State) :
    ReturnedTo s (opRet s) ∧ SameControl s (opRet s) := by
  refine ⟨⟨?_, ?_, rfl, fun r => by simp [opRet], rfl, fun k => rfl⟩, rfl, rfl, rfl, rfl, rfl⟩
  · simp [opRet, State.top16]
  · simp [opRet, State.top16]

/-- A condition code holds exactly when R220 says so. -/
theorem condHolds_iff (cc : Cond) (f : Flags) : condHolds cc f = true ↔ CondTrue cc f := by
  cases cc <;> simp [condHolds, CondTrue]

/-- The exception's effect when it is raised after the opcode bytes were fetched at `s.pc` (R262): the
state before, plus the record. -/
theorem raiseUnimplemented_advance (bytes : List Byte) (s : State) :
    raiseUnimplemented bytes (s.advance bytes.length) =
      { s with fault := some (.unimplementedOpcode bytes s.pc) } := by
  have h : s.pc + BitVec.ofNat 16 bytes.length - BitVec.ofNat 16 bytes.length = s.pc :=
    BitVec.add_sub_cancel _ _
  simp only [raiseUnimplemented, State.advance, State.setPc, h]

end Sys2Proof.Machine
end

