-- ==== Sys2Proof/Laws/PerInstr.lean ====
section
/-! SUPPORT. What holds of every instruction as syntax: its bytes are one, two or three (spec/30_encoding.md
R70). One lemma for each constructor. -/

namespace Sys2Proof.Laws.EncodeLength

/-- R70: the instruction is encoded in one to three bytes. -/
def Statement (i : Instr) : Prop := 1 ≤ (encode i).length ∧ (encode i).length ≤ 3

theorem nop : Statement .nop := ⟨Nat.le_refl 1, Nat.le_add_left 1 2⟩
theorem ldBcD16 (nn : Word) : Statement (.ldBcD16 nn) := ⟨Nat.le_add_left 1 2, Nat.le_refl 3⟩
theorem ldAtBcA : Statement .ldAtBcA := ⟨Nat.le_refl 1, Nat.le_add_left 1 2⟩
theorem incBc : Statement .incBc := ⟨Nat.le_refl 1, Nat.le_add_left 1 2⟩
theorem incB : Statement .incB := ⟨Nat.le_refl 1, Nat.le_add_left 1 2⟩
theorem decB : Statement .decB := ⟨Nat.le_refl 1, Nat.le_add_left 1 2⟩
theorem ldBD8 (n : Byte) : Statement (.ldBD8 n) := ⟨Nat.le_add_left 1 1, Nat.le_add_left 2 1⟩
theorem rlca : Statement .rlca := ⟨Nat.le_refl 1, Nat.le_add_left 1 2⟩
theorem ldAtA16Sp (nn : Word) : Statement (.ldAtA16Sp nn) := ⟨Nat.le_add_left 1 2, Nat.le_refl 3⟩
theorem addHlBc : Statement .addHlBc := ⟨Nat.le_refl 1, Nat.le_add_left 1 2⟩
theorem ldAAtBc : Statement .ldAAtBc := ⟨Nat.le_refl 1, Nat.le_add_left 1 2⟩
theorem decBc : Statement .decBc := ⟨Nat.le_refl 1, Nat.le_add_left 1 2⟩
theorem incC : Statement .incC := ⟨Nat.le_refl 1, Nat.le_add_left 1 2⟩
theorem decC : Statement .decC := ⟨Nat.le_refl 1, Nat.le_add_left 1 2⟩
theorem ldCD8 (n : Byte) : Statement (.ldCD8 n) := ⟨Nat.le_add_left 1 1, Nat.le_add_left 2 1⟩
theorem rrca : Statement .rrca := ⟨Nat.le_refl 1, Nat.le_add_left 1 2⟩
theorem stop (n : Byte) : Statement (.stop n) := ⟨Nat.le_add_left 1 1, Nat.le_add_left 2 1⟩
theorem ldDeD16 (nn : Word) : Statement (.ldDeD16 nn) := ⟨Nat.le_add_left 1 2, Nat.le_refl 3⟩
theorem ldAtDeA : Statement .ldAtDeA := ⟨Nat.le_refl 1, Nat.le_add_left 1 2⟩
theorem incDe : Statement .incDe := ⟨Nat.le_refl 1, Nat.le_add_left 1 2⟩
theorem incD : Statement .incD := ⟨Nat.le_refl 1, Nat.le_add_left 1 2⟩
theorem decD : Statement .decD := ⟨Nat.le_refl 1, Nat.le_add_left 1 2⟩
theorem ldDD8 (n : Byte) : Statement (.ldDD8 n) := ⟨Nat.le_add_left 1 1, Nat.le_add_left 2 1⟩
theorem rla : Statement .rla := ⟨Nat.le_refl 1, Nat.le_add_left 1 2⟩
theorem jrE8 (n : Byte) : Statement (.jrE8 n) := ⟨Nat.le_add_left 1 1, Nat.le_add_left 2 1⟩
theorem addHlDe : Statement .addHlDe := ⟨Nat.le_refl 1, Nat.le_add_left 1 2⟩
theorem ldAAtDe : Statement .ldAAtDe := ⟨Nat.le_refl 1, Nat.le_add_left 1 2⟩
theorem decDe : Statement .decDe := ⟨Nat.le_refl 1, Nat.le_add_left 1 2⟩
theorem incE : Statement .incE := ⟨Nat.le_refl 1, Nat.le_add_left 1 2⟩
theorem decE : Statement .decE := ⟨Nat.le_refl 1, Nat.le_add_left 1 2⟩
theorem ldED8 (n : Byte) : Statement (.ldED8 n) := ⟨Nat.le_add_left 1 1, Nat.le_add_left 2 1⟩
theorem rra : Statement .rra := ⟨Nat.le_refl 1, Nat.le_add_left 1 2⟩
theorem jrNzE8 (n : Byte) : Statement (.jrNzE8 n) := ⟨Nat.le_add_left 1 1, Nat.le_add_left 2 1⟩
theorem ldHlD16 (nn : Word) : Statement (.ldHlD16 nn) := ⟨Nat.le_add_left 1 2, Nat.le_refl 3⟩
theorem ldAtHlIncA : Statement .ldAtHlIncA := ⟨Nat.le_refl 1, Nat.le_add_left 1 2⟩
theorem incHl : Statement .incHl := ⟨Nat.le_refl 1, Nat.le_add_left 1 2⟩
theorem incH : Statement .incH := ⟨Nat.le_refl 1, Nat.le_add_left 1 2⟩
theorem decH : Statement .decH := ⟨Nat.le_refl 1, Nat.le_add_left 1 2⟩
theorem ldHD8 (n : Byte) : Statement (.ldHD8 n) := ⟨Nat.le_add_left 1 1, Nat.le_add_left 2 1⟩
theorem daa : Statement .daa := ⟨Nat.le_refl 1, Nat.le_add_left 1 2⟩
theorem jrZE8 (n : Byte) : Statement (.jrZE8 n) := ⟨Nat.le_add_left 1 1, Nat.le_add_left 2 1⟩
theorem addHlHl : Statement .addHlHl := ⟨Nat.le_refl 1, Nat.le_add_left 1 2⟩
theorem ldAAtHlInc : Statement .ldAAtHlInc := ⟨Nat.le_refl 1, Nat.le_add_left 1 2⟩
theorem decHl : Statement .decHl := ⟨Nat.le_refl 1, Nat.le_add_left 1 2⟩
theorem incL : Statement .incL := ⟨Nat.le_refl 1, Nat.le_add_left 1 2⟩
theorem decL : Statement .decL := ⟨Nat.le_refl 1, Nat.le_add_left 1 2⟩
theorem ldLD8 (n : Byte) : Statement (.ldLD8 n) := ⟨Nat.le_add_left 1 1, Nat.le_add_left 2 1⟩
theorem cpl : Statement .cpl := ⟨Nat.le_refl 1, Nat.le_add_left 1 2⟩
theorem jrNcE8 (n : Byte) : Statement (.jrNcE8 n) := ⟨Nat.le_add_left 1 1, Nat.le_add_left 2 1⟩
theorem ldSpD16 (nn : Word) : Statement (.ldSpD16 nn) := ⟨Nat.le_add_left 1 2, Nat.le_refl 3⟩
theorem ldAtHlDecA : Statement .ldAtHlDecA := ⟨Nat.le_refl 1, Nat.le_add_left 1 2⟩
theorem incSp : Statement .incSp := ⟨Nat.le_refl 1, Nat.le_add_left 1 2⟩
theorem incAtHl : Statement .incAtHl := ⟨Nat.le_refl 1, Nat.le_add_left 1 2⟩
theorem decAtHl : Statement .decAtHl := ⟨Nat.le_refl 1, Nat.le_add_left 1 2⟩
theorem ldAtHlD8 (n : Byte) : Statement (.ldAtHlD8 n) := ⟨Nat.le_add_left 1 1, Nat.le_add_left 2 1⟩
theorem scf : Statement .scf := ⟨Nat.le_refl 1, Nat.le_add_left 1 2⟩
theorem jrCE8 (n : Byte) : Statement (.jrCE8 n) := ⟨Nat.le_add_left 1 1, Nat.le_add_left 2 1⟩
theorem addHlSp : Statement .addHlSp := ⟨Nat.le_refl 1, Nat.le_add_left 1 2⟩
theorem ldAAtHlDec : Statement .ldAAtHlDec := ⟨Nat.le_refl 1, Nat.le_add_left 1 2⟩
theorem decSp : Statement .decSp := ⟨Nat.le_refl 1, Nat.le_add_left 1 2⟩
theorem incA : Statement .incA := ⟨Nat.le_refl 1, Nat.le_add_left 1 2⟩
theorem decA : Statement .decA := ⟨Nat.le_refl 1, Nat.le_add_left 1 2⟩
theorem ldAD8 (n : Byte) : Statement (.ldAD8 n) := ⟨Nat.le_add_left 1 1, Nat.le_add_left 2 1⟩
theorem ccf : Statement .ccf := ⟨Nat.le_refl 1, Nat.le_add_left 1 2⟩
theorem ldBB : Statement .ldBB := ⟨Nat.le_refl 1, Nat.le_add_left 1 2⟩
theorem ldBC : Statement .ldBC := ⟨Nat.le_refl 1, Nat.le_add_left 1 2⟩
theorem ldBD : Statement .ldBD := ⟨Nat.le_refl 1, Nat.le_add_left 1 2⟩
theorem ldBE : Statement .ldBE := ⟨Nat.le_refl 1, Nat.le_add_left 1 2⟩
theorem ldBH : Statement .ldBH := ⟨Nat.le_refl 1, Nat.le_add_left 1 2⟩
theorem ldBL : Statement .ldBL := ⟨Nat.le_refl 1, Nat.le_add_left 1 2⟩
theorem ldBAtHl : Statement .ldBAtHl := ⟨Nat.le_refl 1, Nat.le_add_left 1 2⟩
theorem ldBA : Statement .ldBA := ⟨Nat.le_refl 1, Nat.le_add_left 1 2⟩
theorem ldCB : Statement .ldCB := ⟨Nat.le_refl 1, Nat.le_add_left 1 2⟩
theorem ldCC : Statement .ldCC := ⟨Nat.le_refl 1, Nat.le_add_left 1 2⟩
theorem ldCD : Statement .ldCD := ⟨Nat.le_refl 1, Nat.le_add_left 1 2⟩
theorem ldCE : Statement .ldCE := ⟨Nat.le_refl 1, Nat.le_add_left 1 2⟩
theorem ldCH : Statement .ldCH := ⟨Nat.le_refl 1, Nat.le_add_left 1 2⟩
theorem ldCL : Statement .ldCL := ⟨Nat.le_refl 1, Nat.le_add_left 1 2⟩
theorem ldCAtHl : Statement .ldCAtHl := ⟨Nat.le_refl 1, Nat.le_add_left 1 2⟩
theorem ldCA : Statement .ldCA := ⟨Nat.le_refl 1, Nat.le_add_left 1 2⟩
theorem ldDB : Statement .ldDB := ⟨Nat.le_refl 1, Nat.le_add_left 1 2⟩
theorem ldDC : Statement .ldDC := ⟨Nat.le_refl 1, Nat.le_add_left 1 2⟩
theorem ldDD : Statement .ldDD := ⟨Nat.le_refl 1, Nat.le_add_left 1 2⟩
theorem ldDE : Statement .ldDE := ⟨Nat.le_refl 1, Nat.le_add_left 1 2⟩
theorem ldDH : Statement .ldDH := ⟨Nat.le_refl 1, Nat.le_add_left 1 2⟩
theorem ldDL : Statement .ldDL := ⟨Nat.le_refl 1, Nat.le_add_left 1 2⟩
theorem ldDAtHl : Statement .ldDAtHl := ⟨Nat.le_refl 1, Nat.le_add_left 1 2⟩
theorem ldDA : Statement .ldDA := ⟨Nat.le_refl 1, Nat.le_add_left 1 2⟩
theorem ldEB : Statement .ldEB := ⟨Nat.le_refl 1, Nat.le_add_left 1 2⟩
theorem ldEC : Statement .ldEC := ⟨Nat.le_refl 1, Nat.le_add_left 1 2⟩
theorem ldED : Statement .ldED := ⟨Nat.le_refl 1, Nat.le_add_left 1 2⟩
theorem ldEE : Statement .ldEE := ⟨Nat.le_refl 1, Nat.le_add_left 1 2⟩
theorem ldEH : Statement .ldEH := ⟨Nat.le_refl 1, Nat.le_add_left 1 2⟩
theorem ldEL : Statement .ldEL := ⟨Nat.le_refl 1, Nat.le_add_left 1 2⟩
theorem ldEAtHl : Statement .ldEAtHl := ⟨Nat.le_refl 1, Nat.le_add_left 1 2⟩
theorem ldEA : Statement .ldEA := ⟨Nat.le_refl 1, Nat.le_add_left 1 2⟩
theorem ldHB : Statement .ldHB := ⟨Nat.le_refl 1, Nat.le_add_left 1 2⟩
theorem ldHC : Statement .ldHC := ⟨Nat.le_refl 1, Nat.le_add_left 1 2⟩
theorem ldHD : Statement .ldHD := ⟨Nat.le_refl 1, Nat.le_add_left 1 2⟩
theorem ldHE : Statement .ldHE := ⟨Nat.le_refl 1, Nat.le_add_left 1 2⟩
theorem ldHH : Statement .ldHH := ⟨Nat.le_refl 1, Nat.le_add_left 1 2⟩
theorem ldHL : Statement .ldHL := ⟨Nat.le_refl 1, Nat.le_add_left 1 2⟩
theorem ldHAtHl : Statement .ldHAtHl := ⟨Nat.le_refl 1, Nat.le_add_left 1 2⟩
theorem ldHA : Statement .ldHA := ⟨Nat.le_refl 1, Nat.le_add_left 1 2⟩
theorem ldLB : Statement .ldLB := ⟨Nat.le_refl 1, Nat.le_add_left 1 2⟩
theorem ldLC : Statement .ldLC := ⟨Nat.le_refl 1, Nat.le_add_left 1 2⟩
theorem ldLD : Statement .ldLD := ⟨Nat.le_refl 1, Nat.le_add_left 1 2⟩
theorem ldLE : Statement .ldLE := ⟨Nat.le_refl 1, Nat.le_add_left 1 2⟩
theorem ldLH : Statement .ldLH := ⟨Nat.le_refl 1, Nat.le_add_left 1 2⟩
theorem ldLL : Statement .ldLL := ⟨Nat.le_refl 1, Nat.le_add_left 1 2⟩
theorem ldLAtHl : Statement .ldLAtHl := ⟨Nat.le_refl 1, Nat.le_add_left 1 2⟩
theorem ldLA : Statement .ldLA := ⟨Nat.le_refl 1, Nat.le_add_left 1 2⟩
theorem ldAtHlB : Statement .ldAtHlB := ⟨Nat.le_refl 1, Nat.le_add_left 1 2⟩
theorem ldAtHlC : Statement .ldAtHlC := ⟨Nat.le_refl 1, Nat.le_add_left 1 2⟩
theorem ldAtHlD : Statement .ldAtHlD := ⟨Nat.le_refl 1, Nat.le_add_left 1 2⟩
theorem ldAtHlE : Statement .ldAtHlE := ⟨Nat.le_refl 1, Nat.le_add_left 1 2⟩
theorem ldAtHlH : Statement .ldAtHlH := ⟨Nat.le_refl 1, Nat.le_add_left 1 2⟩
theorem ldAtHlL : Statement .ldAtHlL := ⟨Nat.le_refl 1, Nat.le_add_left 1 2⟩
theorem halt : Statement .halt := ⟨Nat.le_refl 1, Nat.le_add_left 1 2⟩
theorem ldAtHlA : Statement .ldAtHlA := ⟨Nat.le_refl 1, Nat.le_add_left 1 2⟩
theorem ldAB : Statement .ldAB := ⟨Nat.le_refl 1, Nat.le_add_left 1 2⟩
theorem ldAC : Statement .ldAC := ⟨Nat.le_refl 1, Nat.le_add_left 1 2⟩
theorem ldAD : Statement .ldAD := ⟨Nat.le_refl 1, Nat.le_add_left 1 2⟩
theorem ldAE : Statement .ldAE := ⟨Nat.le_refl 1, Nat.le_add_left 1 2⟩
theorem ldAH : Statement .ldAH := ⟨Nat.le_refl 1, Nat.le_add_left 1 2⟩
theorem ldAL : Statement .ldAL := ⟨Nat.le_refl 1, Nat.le_add_left 1 2⟩
theorem ldAAtHl : Statement .ldAAtHl := ⟨Nat.le_refl 1, Nat.le_add_left 1 2⟩
theorem ldAA : Statement .ldAA := ⟨Nat.le_refl 1, Nat.le_add_left 1 2⟩
theorem addAB : Statement .addAB := ⟨Nat.le_refl 1, Nat.le_add_left 1 2⟩
theorem addAC : Statement .addAC := ⟨Nat.le_refl 1, Nat.le_add_left 1 2⟩
theorem addAD : Statement .addAD := ⟨Nat.le_refl 1, Nat.le_add_left 1 2⟩
theorem addAE : Statement .addAE := ⟨Nat.le_refl 1, Nat.le_add_left 1 2⟩
theorem addAH : Statement .addAH := ⟨Nat.le_refl 1, Nat.le_add_left 1 2⟩
theorem addAL : Statement .addAL := ⟨Nat.le_refl 1, Nat.le_add_left 1 2⟩
theorem addAAtHl : Statement .addAAtHl := ⟨Nat.le_refl 1, Nat.le_add_left 1 2⟩
theorem addAA : Statement .addAA := ⟨Nat.le_refl 1, Nat.le_add_left 1 2⟩
theorem adcAB : Statement .adcAB := ⟨Nat.le_refl 1, Nat.le_add_left 1 2⟩
theorem adcAC : Statement .adcAC := ⟨Nat.le_refl 1, Nat.le_add_left 1 2⟩
theorem adcAD : Statement .adcAD := ⟨Nat.le_refl 1, Nat.le_add_left 1 2⟩
theorem adcAE : Statement .adcAE := ⟨Nat.le_refl 1, Nat.le_add_left 1 2⟩
theorem adcAH : Statement .adcAH := ⟨Nat.le_refl 1, Nat.le_add_left 1 2⟩
theorem adcAL : Statement .adcAL := ⟨Nat.le_refl 1, Nat.le_add_left 1 2⟩
theorem adcAAtHl : Statement .adcAAtHl := ⟨Nat.le_refl 1, Nat.le_add_left 1 2⟩
theorem adcAA : Statement .adcAA := ⟨Nat.le_refl 1, Nat.le_add_left 1 2⟩
theorem subAB : Statement .subAB := ⟨Nat.le_refl 1, Nat.le_add_left 1 2⟩
theorem subAC : Statement .subAC := ⟨Nat.le_refl 1, Nat.le_add_left 1 2⟩
theorem subAD : Statement .subAD := ⟨Nat.le_refl 1, Nat.le_add_left 1 2⟩
theorem subAE : Statement .subAE := ⟨Nat.le_refl 1, Nat.le_add_left 1 2⟩
theorem subAH : Statement .subAH := ⟨Nat.le_refl 1, Nat.le_add_left 1 2⟩
theorem subAL : Statement .subAL := ⟨Nat.le_refl 1, Nat.le_add_left 1 2⟩
theorem subAAtHl : Statement .subAAtHl := ⟨Nat.le_refl 1, Nat.le_add_left 1 2⟩
theorem subAA : Statement .subAA := ⟨Nat.le_refl 1, Nat.le_add_left 1 2⟩
theorem sbcAB : Statement .sbcAB := ⟨Nat.le_refl 1, Nat.le_add_left 1 2⟩
theorem sbcAC : Statement .sbcAC := ⟨Nat.le_refl 1, Nat.le_add_left 1 2⟩
theorem sbcAD : Statement .sbcAD := ⟨Nat.le_refl 1, Nat.le_add_left 1 2⟩
theorem sbcAE : Statement .sbcAE := ⟨Nat.le_refl 1, Nat.le_add_left 1 2⟩
theorem sbcAH : Statement .sbcAH := ⟨Nat.le_refl 1, Nat.le_add_left 1 2⟩
theorem sbcAL : Statement .sbcAL := ⟨Nat.le_refl 1, Nat.le_add_left 1 2⟩
theorem sbcAAtHl : Statement .sbcAAtHl := ⟨Nat.le_refl 1, Nat.le_add_left 1 2⟩
theorem sbcAA : Statement .sbcAA := ⟨Nat.le_refl 1, Nat.le_add_left 1 2⟩
theorem andAB : Statement .andAB := ⟨Nat.le_refl 1, Nat.le_add_left 1 2⟩
theorem andAC : Statement .andAC := ⟨Nat.le_refl 1, Nat.le_add_left 1 2⟩
theorem andAD : Statement .andAD := ⟨Nat.le_refl 1, Nat.le_add_left 1 2⟩
theorem andAE : Statement .andAE := ⟨Nat.le_refl 1, Nat.le_add_left 1 2⟩
theorem andAH : Statement .andAH := ⟨Nat.le_refl 1, Nat.le_add_left 1 2⟩
theorem andAL : Statement .andAL := ⟨Nat.le_refl 1, Nat.le_add_left 1 2⟩
theorem andAAtHl : Statement .andAAtHl := ⟨Nat.le_refl 1, Nat.le_add_left 1 2⟩
theorem andAA : Statement .andAA := ⟨Nat.le_refl 1, Nat.le_add_left 1 2⟩
theorem xorAB : Statement .xorAB := ⟨Nat.le_refl 1, Nat.le_add_left 1 2⟩
theorem xorAC : Statement .xorAC := ⟨Nat.le_refl 1, Nat.le_add_left 1 2⟩
theorem xorAD : Statement .xorAD := ⟨Nat.le_refl 1, Nat.le_add_left 1 2⟩
theorem xorAE : Statement .xorAE := ⟨Nat.le_refl 1, Nat.le_add_left 1 2⟩
theorem xorAH : Statement .xorAH := ⟨Nat.le_refl 1, Nat.le_add_left 1 2⟩
theorem xorAL : Statement .xorAL := ⟨Nat.le_refl 1, Nat.le_add_left 1 2⟩
theorem xorAAtHl : Statement .xorAAtHl := ⟨Nat.le_refl 1, Nat.le_add_left 1 2⟩
theorem xorAA : Statement .xorAA := ⟨Nat.le_refl 1, Nat.le_add_left 1 2⟩
theorem orAB : Statement .orAB := ⟨Nat.le_refl 1, Nat.le_add_left 1 2⟩
theorem orAC : Statement .orAC := ⟨Nat.le_refl 1, Nat.le_add_left 1 2⟩
theorem orAD : Statement .orAD := ⟨Nat.le_refl 1, Nat.le_add_left 1 2⟩
theorem orAE : Statement .orAE := ⟨Nat.le_refl 1, Nat.le_add_left 1 2⟩
theorem orAH : Statement .orAH := ⟨Nat.le_refl 1, Nat.le_add_left 1 2⟩
theorem orAL : Statement .orAL := ⟨Nat.le_refl 1, Nat.le_add_left 1 2⟩
theorem orAAtHl : Statement .orAAtHl := ⟨Nat.le_refl 1, Nat.le_add_left 1 2⟩
theorem orAA : Statement .orAA := ⟨Nat.le_refl 1, Nat.le_add_left 1 2⟩
theorem cpAB : Statement .cpAB := ⟨Nat.le_refl 1, Nat.le_add_left 1 2⟩
theorem cpAC : Statement .cpAC := ⟨Nat.le_refl 1, Nat.le_add_left 1 2⟩
theorem cpAD : Statement .cpAD := ⟨Nat.le_refl 1, Nat.le_add_left 1 2⟩
theorem cpAE : Statement .cpAE := ⟨Nat.le_refl 1, Nat.le_add_left 1 2⟩
theorem cpAH : Statement .cpAH := ⟨Nat.le_refl 1, Nat.le_add_left 1 2⟩
theorem cpAL : Statement .cpAL := ⟨Nat.le_refl 1, Nat.le_add_left 1 2⟩
theorem cpAAtHl : Statement .cpAAtHl := ⟨Nat.le_refl 1, Nat.le_add_left 1 2⟩
theorem cpAA : Statement .cpAA := ⟨Nat.le_refl 1, Nat.le_add_left 1 2⟩
theorem retNz : Statement .retNz := ⟨Nat.le_refl 1, Nat.le_add_left 1 2⟩
theorem popBc : Statement .popBc := ⟨Nat.le_refl 1, Nat.le_add_left 1 2⟩
theorem jpNzA16 (nn : Word) : Statement (.jpNzA16 nn) := ⟨Nat.le_add_left 1 2, Nat.le_refl 3⟩
theorem jpA16 (nn : Word) : Statement (.jpA16 nn) := ⟨Nat.le_add_left 1 2, Nat.le_refl 3⟩
theorem callNzA16 (nn : Word) : Statement (.callNzA16 nn) := ⟨Nat.le_add_left 1 2, Nat.le_refl 3⟩
theorem pushBc : Statement .pushBc := ⟨Nat.le_refl 1, Nat.le_add_left 1 2⟩
theorem addAD8 (n : Byte) : Statement (.addAD8 n) := ⟨Nat.le_add_left 1 1, Nat.le_add_left 2 1⟩
theorem rst00 : Statement .rst00 := ⟨Nat.le_refl 1, Nat.le_add_left 1 2⟩
theorem retZ : Statement .retZ := ⟨Nat.le_refl 1, Nat.le_add_left 1 2⟩
theorem ret : Statement .ret := ⟨Nat.le_refl 1, Nat.le_add_left 1 2⟩
theorem jpZA16 (nn : Word) : Statement (.jpZA16 nn) := ⟨Nat.le_add_left 1 2, Nat.le_refl 3⟩
theorem callZA16 (nn : Word) : Statement (.callZA16 nn) := ⟨Nat.le_add_left 1 2, Nat.le_refl 3⟩
theorem callA16 (nn : Word) : Statement (.callA16 nn) := ⟨Nat.le_add_left 1 2, Nat.le_refl 3⟩
theorem adcAD8 (n : Byte) : Statement (.adcAD8 n) := ⟨Nat.le_add_left 1 1, Nat.le_add_left 2 1⟩
theorem rst08 : Statement .rst08 := ⟨Nat.le_refl 1, Nat.le_add_left 1 2⟩
theorem retNc : Statement .retNc := ⟨Nat.le_refl 1, Nat.le_add_left 1 2⟩
theorem popDe : Statement .popDe := ⟨Nat.le_refl 1, Nat.le_add_left 1 2⟩
theorem jpNcA16 (nn : Word) : Statement (.jpNcA16 nn) := ⟨Nat.le_add_left 1 2, Nat.le_refl 3⟩
theorem callNcA16 (nn : Word) : Statement (.callNcA16 nn) := ⟨Nat.le_add_left 1 2, Nat.le_refl 3⟩
theorem pushDe : Statement .pushDe := ⟨Nat.le_refl 1, Nat.le_add_left 1 2⟩
theorem subAD8 (n : Byte) : Statement (.subAD8 n) := ⟨Nat.le_add_left 1 1, Nat.le_add_left 2 1⟩
theorem rst10 : Statement .rst10 := ⟨Nat.le_refl 1, Nat.le_add_left 1 2⟩
theorem retC : Statement .retC := ⟨Nat.le_refl 1, Nat.le_add_left 1 2⟩
theorem reti : Statement .reti := ⟨Nat.le_refl 1, Nat.le_add_left 1 2⟩
theorem jpCA16 (nn : Word) : Statement (.jpCA16 nn) := ⟨Nat.le_add_left 1 2, Nat.le_refl 3⟩
theorem callCA16 (nn : Word) : Statement (.callCA16 nn) := ⟨Nat.le_add_left 1 2, Nat.le_refl 3⟩
theorem sbcAD8 (n : Byte) : Statement (.sbcAD8 n) := ⟨Nat.le_add_left 1 1, Nat.le_add_left 2 1⟩
theorem rst18 : Statement .rst18 := ⟨Nat.le_refl 1, Nat.le_add_left 1 2⟩
theorem ldhAtA8A (n : Byte) : Statement (.ldhAtA8A n) := ⟨Nat.le_add_left 1 1, Nat.le_add_left 2 1⟩
theorem popHl : Statement .popHl := ⟨Nat.le_refl 1, Nat.le_add_left 1 2⟩
theorem ldAtCA : Statement .ldAtCA := ⟨Nat.le_refl 1, Nat.le_add_left 1 2⟩
theorem pushHl : Statement .pushHl := ⟨Nat.le_refl 1, Nat.le_add_left 1 2⟩
theorem andAD8 (n : Byte) : Statement (.andAD8 n) := ⟨Nat.le_add_left 1 1, Nat.le_add_left 2 1⟩
theorem rst20 : Statement .rst20 := ⟨Nat.le_refl 1, Nat.le_add_left 1 2⟩
theorem addSpE8 (n : Byte) : Statement (.addSpE8 n) := ⟨Nat.le_add_left 1 1, Nat.le_add_left 2 1⟩
theorem jpHl : Statement .jpHl := ⟨Nat.le_refl 1, Nat.le_add_left 1 2⟩
theorem ldAtA16A (nn : Word) : Statement (.ldAtA16A nn) := ⟨Nat.le_add_left 1 2, Nat.le_refl 3⟩
theorem xorAD8 (n : Byte) : Statement (.xorAD8 n) := ⟨Nat.le_add_left 1 1, Nat.le_add_left 2 1⟩
theorem rst28 : Statement .rst28 := ⟨Nat.le_refl 1, Nat.le_add_left 1 2⟩
theorem ldhAAtA8 (n : Byte) : Statement (.ldhAAtA8 n) := ⟨Nat.le_add_left 1 1, Nat.le_add_left 2 1⟩
theorem popAf : Statement .popAf := ⟨Nat.le_refl 1, Nat.le_add_left 1 2⟩
theorem ldAAtC : Statement .ldAAtC := ⟨Nat.le_refl 1, Nat.le_add_left 1 2⟩
theorem di : Statement .di := ⟨Nat.le_refl 1, Nat.le_add_left 1 2⟩
theorem pushAf : Statement .pushAf := ⟨Nat.le_refl 1, Nat.le_add_left 1 2⟩
theorem orAD8 (n : Byte) : Statement (.orAD8 n) := ⟨Nat.le_add_left 1 1, Nat.le_add_left 2 1⟩
theorem rst30 : Statement .rst30 := ⟨Nat.le_refl 1, Nat.le_add_left 1 2⟩
theorem ldHlSpE8 (n : Byte) : Statement (.ldHlSpE8 n) := ⟨Nat.le_add_left 1 1, Nat.le_add_left 2 1⟩
theorem ldSpHl : Statement .ldSpHl := ⟨Nat.le_refl 1, Nat.le_add_left 1 2⟩
theorem ldAAtA16 (nn : Word) : Statement (.ldAAtA16 nn) := ⟨Nat.le_add_left 1 2, Nat.le_refl 3⟩
theorem ei : Statement .ei := ⟨Nat.le_refl 1, Nat.le_add_left 1 2⟩
theorem cpAD8 (n : Byte) : Statement (.cpAD8 n) := ⟨Nat.le_add_left 1 1, Nat.le_add_left 2 1⟩
theorem rst38 : Statement .rst38 := ⟨Nat.le_refl 1, Nat.le_add_left 1 2⟩
theorem rlcB : Statement .rlcB := ⟨Nat.le_add_left 1 1, Nat.le_add_left 2 1⟩
theorem rlcC : Statement .rlcC := ⟨Nat.le_add_left 1 1, Nat.le_add_left 2 1⟩
theorem rlcD : Statement .rlcD := ⟨Nat.le_add_left 1 1, Nat.le_add_left 2 1⟩
theorem rlcE : Statement .rlcE := ⟨Nat.le_add_left 1 1, Nat.le_add_left 2 1⟩
theorem rlcH : Statement .rlcH := ⟨Nat.le_add_left 1 1, Nat.le_add_left 2 1⟩
theorem rlcL : Statement .rlcL := ⟨Nat.le_add_left 1 1, Nat.le_add_left 2 1⟩
theorem rlcAtHl : Statement .rlcAtHl := ⟨Nat.le_add_left 1 1, Nat.le_add_left 2 1⟩
theorem rlcA : Statement .rlcA := ⟨Nat.le_add_left 1 1, Nat.le_add_left 2 1⟩
theorem rrcB : Statement .rrcB := ⟨Nat.le_add_left 1 1, Nat.le_add_left 2 1⟩
theorem rrcC : Statement .rrcC := ⟨Nat.le_add_left 1 1, Nat.le_add_left 2 1⟩
theorem rrcD : Statement .rrcD := ⟨Nat.le_add_left 1 1, Nat.le_add_left 2 1⟩
theorem rrcE : Statement .rrcE := ⟨Nat.le_add_left 1 1, Nat.le_add_left 2 1⟩
theorem rrcH : Statement .rrcH := ⟨Nat.le_add_left 1 1, Nat.le_add_left 2 1⟩
theorem rrcL : Statement .rrcL := ⟨Nat.le_add_left 1 1, Nat.le_add_left 2 1⟩
theorem rrcAtHl : Statement .rrcAtHl := ⟨Nat.le_add_left 1 1, Nat.le_add_left 2 1⟩
theorem rrcA : Statement .rrcA := ⟨Nat.le_add_left 1 1, Nat.le_add_left 2 1⟩
theorem rlB : Statement .rlB := ⟨Nat.le_add_left 1 1, Nat.le_add_left 2 1⟩
theorem rlC : Statement .rlC := ⟨Nat.le_add_left 1 1, Nat.le_add_left 2 1⟩
theorem rlD : Statement .rlD := ⟨Nat.le_add_left 1 1, Nat.le_add_left 2 1⟩
theorem rlE : Statement .rlE := ⟨Nat.le_add_left 1 1, Nat.le_add_left 2 1⟩
theorem rlH : Statement .rlH := ⟨Nat.le_add_left 1 1, Nat.le_add_left 2 1⟩
theorem rlL : Statement .rlL := ⟨Nat.le_add_left 1 1, Nat.le_add_left 2 1⟩
theorem rlAtHl : Statement .rlAtHl := ⟨Nat.le_add_left 1 1, Nat.le_add_left 2 1⟩
theorem rlA : Statement .rlA := ⟨Nat.le_add_left 1 1, Nat.le_add_left 2 1⟩
theorem rrB : Statement .rrB := ⟨Nat.le_add_left 1 1, Nat.le_add_left 2 1⟩
theorem rrC : Statement .rrC := ⟨Nat.le_add_left 1 1, Nat.le_add_left 2 1⟩
theorem rrD : Statement .rrD := ⟨Nat.le_add_left 1 1, Nat.le_add_left 2 1⟩
theorem rrE : Statement .rrE := ⟨Nat.le_add_left 1 1, Nat.le_add_left 2 1⟩
theorem rrH : Statement .rrH := ⟨Nat.le_add_left 1 1, Nat.le_add_left 2 1⟩
theorem rrL : Statement .rrL := ⟨Nat.le_add_left 1 1, Nat.le_add_left 2 1⟩
theorem rrAtHl : Statement .rrAtHl := ⟨Nat.le_add_left 1 1, Nat.le_add_left 2 1⟩
theorem rrA : Statement .rrA := ⟨Nat.le_add_left 1 1, Nat.le_add_left 2 1⟩
theorem slaB : Statement .slaB := ⟨Nat.le_add_left 1 1, Nat.le_add_left 2 1⟩
theorem slaC : Statement .slaC := ⟨Nat.le_add_left 1 1, Nat.le_add_left 2 1⟩
theorem slaD : Statement .slaD := ⟨Nat.le_add_left 1 1, Nat.le_add_left 2 1⟩
theorem slaE : Statement .slaE := ⟨Nat.le_add_left 1 1, Nat.le_add_left 2 1⟩
theorem slaH : Statement .slaH := ⟨Nat.le_add_left 1 1, Nat.le_add_left 2 1⟩
theorem slaL : Statement .slaL := ⟨Nat.le_add_left 1 1, Nat.le_add_left 2 1⟩
theorem slaAtHl : Statement .slaAtHl := ⟨Nat.le_add_left 1 1, Nat.le_add_left 2 1⟩
theorem slaA : Statement .slaA := ⟨Nat.le_add_left 1 1, Nat.le_add_left 2 1⟩
theorem sraB : Statement .sraB := ⟨Nat.le_add_left 1 1, Nat.le_add_left 2 1⟩
theorem sraC : Statement .sraC := ⟨Nat.le_add_left 1 1, Nat.le_add_left 2 1⟩
theorem sraD : Statement .sraD := ⟨Nat.le_add_left 1 1, Nat.le_add_left 2 1⟩
theorem sraE : Statement .sraE := ⟨Nat.le_add_left 1 1, Nat.le_add_left 2 1⟩
theorem sraH : Statement .sraH := ⟨Nat.le_add_left 1 1, Nat.le_add_left 2 1⟩
theorem sraL : Statement .sraL := ⟨Nat.le_add_left 1 1, Nat.le_add_left 2 1⟩
theorem sraAtHl : Statement .sraAtHl := ⟨Nat.le_add_left 1 1, Nat.le_add_left 2 1⟩
theorem sraA : Statement .sraA := ⟨Nat.le_add_left 1 1, Nat.le_add_left 2 1⟩
theorem swapB : Statement .swapB := ⟨Nat.le_add_left 1 1, Nat.le_add_left 2 1⟩
theorem swapC : Statement .swapC := ⟨Nat.le_add_left 1 1, Nat.le_add_left 2 1⟩
theorem swapD : Statement .swapD := ⟨Nat.le_add_left 1 1, Nat.le_add_left 2 1⟩
theorem swapE : Statement .swapE := ⟨Nat.le_add_left 1 1, Nat.le_add_left 2 1⟩
theorem swapH : Statement .swapH := ⟨Nat.le_add_left 1 1, Nat.le_add_left 2 1⟩
theorem swapL : Statement .swapL := ⟨Nat.le_add_left 1 1, Nat.le_add_left 2 1⟩
theorem swapAtHl : Statement .swapAtHl := ⟨Nat.le_add_left 1 1, Nat.le_add_left 2 1⟩
theorem swapA : Statement .swapA := ⟨Nat.le_add_left 1 1, Nat.le_add_left 2 1⟩
theorem srlB : Statement .srlB := ⟨Nat.le_add_left 1 1, Nat.le_add_left 2 1⟩
theorem srlC : Statement .srlC := ⟨Nat.le_add_left 1 1, Nat.le_add_left 2 1⟩
theorem srlD : Statement .srlD := ⟨Nat.le_add_left 1 1, Nat.le_add_left 2 1⟩
theorem srlE : Statement .srlE := ⟨Nat.le_add_left 1 1, Nat.le_add_left 2 1⟩
theorem srlH : Statement .srlH := ⟨Nat.le_add_left 1 1, Nat.le_add_left 2 1⟩
theorem srlL : Statement .srlL := ⟨Nat.le_add_left 1 1, Nat.le_add_left 2 1⟩
theorem srlAtHl : Statement .srlAtHl := ⟨Nat.le_add_left 1 1, Nat.le_add_left 2 1⟩
theorem srlA : Statement .srlA := ⟨Nat.le_add_left 1 1, Nat.le_add_left 2 1⟩
theorem bit0B : Statement .bit0B := ⟨Nat.le_add_left 1 1, Nat.le_add_left 2 1⟩
theorem bit0C : Statement .bit0C := ⟨Nat.le_add_left 1 1, Nat.le_add_left 2 1⟩
theorem bit0D : Statement .bit0D := ⟨Nat.le_add_left 1 1, Nat.le_add_left 2 1⟩
theorem bit0E : Statement .bit0E := ⟨Nat.le_add_left 1 1, Nat.le_add_left 2 1⟩
theorem bit0H : Statement .bit0H := ⟨Nat.le_add_left 1 1, Nat.le_add_left 2 1⟩
theorem bit0L : Statement .bit0L := ⟨Nat.le_add_left 1 1, Nat.le_add_left 2 1⟩
theorem bit0AtHl : Statement .bit0AtHl := ⟨Nat.le_add_left 1 1, Nat.le_add_left 2 1⟩
theorem bit0A : Statement .bit0A := ⟨Nat.le_add_left 1 1, Nat.le_add_left 2 1⟩
theorem bit1B : Statement .bit1B := ⟨Nat.le_add_left 1 1, Nat.le_add_left 2 1⟩
theorem bit1C : Statement .bit1C := ⟨Nat.le_add_left 1 1, Nat.le_add_left 2 1⟩
theorem bit1D : Statement .bit1D := ⟨Nat.le_add_left 1 1, Nat.le_add_left 2 1⟩
theorem bit1E : Statement .bit1E := ⟨Nat.le_add_left 1 1, Nat.le_add_left 2 1⟩
theorem bit1H : Statement .bit1H := ⟨Nat.le_add_left 1 1, Nat.le_add_left 2 1⟩
theorem bit1L : Statement .bit1L := ⟨Nat.le_add_left 1 1, Nat.le_add_left 2 1⟩
theorem bit1AtHl : Statement .bit1AtHl := ⟨Nat.le_add_left 1 1, Nat.le_add_left 2 1⟩
theorem bit1A : Statement .bit1A := ⟨Nat.le_add_left 1 1, Nat.le_add_left 2 1⟩
theorem bit2B : Statement .bit2B := ⟨Nat.le_add_left 1 1, Nat.le_add_left 2 1⟩
theorem bit2C : Statement .bit2C := ⟨Nat.le_add_left 1 1, Nat.le_add_left 2 1⟩
theorem bit2D : Statement .bit2D := ⟨Nat.le_add_left 1 1, Nat.le_add_left 2 1⟩
theorem bit2E : Statement .bit2E := ⟨Nat.le_add_left 1 1, Nat.le_add_left 2 1⟩
theorem bit2H : Statement .bit2H := ⟨Nat.le_add_left 1 1, Nat.le_add_left 2 1⟩
theorem bit2L : Statement .bit2L := ⟨Nat.le_add_left 1 1, Nat.le_add_left 2 1⟩
theorem bit2AtHl : Statement .bit2AtHl := ⟨Nat.le_add_left 1 1, Nat.le_add_left 2 1⟩
theorem bit2A : Statement .bit2A := ⟨Nat.le_add_left 1 1, Nat.le_add_left 2 1⟩
theorem bit3B : Statement .bit3B := ⟨Nat.le_add_left 1 1, Nat.le_add_left 2 1⟩
theorem bit3C : Statement .bit3C := ⟨Nat.le_add_left 1 1, Nat.le_add_left 2 1⟩
theorem bit3D : Statement .bit3D := ⟨Nat.le_add_left 1 1, Nat.le_add_left 2 1⟩
theorem bit3E : Statement .bit3E := ⟨Nat.le_add_left 1 1, Nat.le_add_left 2 1⟩
theorem bit3H : Statement .bit3H := ⟨Nat.le_add_left 1 1, Nat.le_add_left 2 1⟩
theorem bit3L : Statement .bit3L := ⟨Nat.le_add_left 1 1, Nat.le_add_left 2 1⟩
theorem bit3AtHl : Statement .bit3AtHl := ⟨Nat.le_add_left 1 1, Nat.le_add_left 2 1⟩
theorem bit3A : Statement .bit3A := ⟨Nat.le_add_left 1 1, Nat.le_add_left 2 1⟩
theorem bit4B : Statement .bit4B := ⟨Nat.le_add_left 1 1, Nat.le_add_left 2 1⟩
theorem bit4C : Statement .bit4C := ⟨Nat.le_add_left 1 1, Nat.le_add_left 2 1⟩
theorem bit4D : Statement .bit4D := ⟨Nat.le_add_left 1 1, Nat.le_add_left 2 1⟩
theorem bit4E : Statement .bit4E := ⟨Nat.le_add_left 1 1, Nat.le_add_left 2 1⟩
theorem bit4H : Statement .bit4H := ⟨Nat.le_add_left 1 1, Nat.le_add_left 2 1⟩
theorem bit4L : Statement .bit4L := ⟨Nat.le_add_left 1 1, Nat.le_add_left 2 1⟩
theorem bit4AtHl : Statement .bit4AtHl := ⟨Nat.le_add_left 1 1, Nat.le_add_left 2 1⟩
theorem bit4A : Statement .bit4A := ⟨Nat.le_add_left 1 1, Nat.le_add_left 2 1⟩
theorem bit5B : Statement .bit5B := ⟨Nat.le_add_left 1 1, Nat.le_add_left 2 1⟩
theorem bit5C : Statement .bit5C := ⟨Nat.le_add_left 1 1, Nat.le_add_left 2 1⟩
theorem bit5D : Statement .bit5D := ⟨Nat.le_add_left 1 1, Nat.le_add_left 2 1⟩
theorem bit5E : Statement .bit5E := ⟨Nat.le_add_left 1 1, Nat.le_add_left 2 1⟩
theorem bit5H : Statement .bit5H := ⟨Nat.le_add_left 1 1, Nat.le_add_left 2 1⟩
theorem bit5L : Statement .bit5L := ⟨Nat.le_add_left 1 1, Nat.le_add_left 2 1⟩
theorem bit5AtHl : Statement .bit5AtHl := ⟨Nat.le_add_left 1 1, Nat.le_add_left 2 1⟩
theorem bit5A : Statement .bit5A := ⟨Nat.le_add_left 1 1, Nat.le_add_left 2 1⟩
theorem bit6B : Statement .bit6B := ⟨Nat.le_add_left 1 1, Nat.le_add_left 2 1⟩
theorem bit6C : Statement .bit6C := ⟨Nat.le_add_left 1 1, Nat.le_add_left 2 1⟩
theorem bit6D : Statement .bit6D := ⟨Nat.le_add_left 1 1, Nat.le_add_left 2 1⟩
theorem bit6E : Statement .bit6E := ⟨Nat.le_add_left 1 1, Nat.le_add_left 2 1⟩
theorem bit6H : Statement .bit6H := ⟨Nat.le_add_left 1 1, Nat.le_add_left 2 1⟩
theorem bit6L : Statement .bit6L := ⟨Nat.le_add_left 1 1, Nat.le_add_left 2 1⟩
theorem bit6AtHl : Statement .bit6AtHl := ⟨Nat.le_add_left 1 1, Nat.le_add_left 2 1⟩
theorem bit6A : Statement .bit6A := ⟨Nat.le_add_left 1 1, Nat.le_add_left 2 1⟩
theorem bit7B : Statement .bit7B := ⟨Nat.le_add_left 1 1, Nat.le_add_left 2 1⟩
theorem bit7C : Statement .bit7C := ⟨Nat.le_add_left 1 1, Nat.le_add_left 2 1⟩
theorem bit7D : Statement .bit7D := ⟨Nat.le_add_left 1 1, Nat.le_add_left 2 1⟩
theorem bit7E : Statement .bit7E := ⟨Nat.le_add_left 1 1, Nat.le_add_left 2 1⟩
theorem bit7H : Statement .bit7H := ⟨Nat.le_add_left 1 1, Nat.le_add_left 2 1⟩
theorem bit7L : Statement .bit7L := ⟨Nat.le_add_left 1 1, Nat.le_add_left 2 1⟩
theorem bit7AtHl : Statement .bit7AtHl := ⟨Nat.le_add_left 1 1, Nat.le_add_left 2 1⟩
theorem bit7A : Statement .bit7A := ⟨Nat.le_add_left 1 1, Nat.le_add_left 2 1⟩
theorem res0B : Statement .res0B := ⟨Nat.le_add_left 1 1, Nat.le_add_left 2 1⟩
theorem res0C : Statement .res0C := ⟨Nat.le_add_left 1 1, Nat.le_add_left 2 1⟩
theorem res0D : Statement .res0D := ⟨Nat.le_add_left 1 1, Nat.le_add_left 2 1⟩
theorem res0E : Statement .res0E := ⟨Nat.le_add_left 1 1, Nat.le_add_left 2 1⟩
theorem res0H : Statement .res0H := ⟨Nat.le_add_left 1 1, Nat.le_add_left 2 1⟩
theorem res0L : Statement .res0L := ⟨Nat.le_add_left 1 1, Nat.le_add_left 2 1⟩
theorem res0AtHl : Statement .res0AtHl := ⟨Nat.le_add_left 1 1, Nat.le_add_left 2 1⟩
theorem res0A : Statement .res0A := ⟨Nat.le_add_left 1 1, Nat.le_add_left 2 1⟩
theorem res1B : Statement .res1B := ⟨Nat.le_add_left 1 1, Nat.le_add_left 2 1⟩
theorem res1C : Statement .res1C := ⟨Nat.le_add_left 1 1, Nat.le_add_left 2 1⟩
theorem res1D : Statement .res1D := ⟨Nat.le_add_left 1 1, Nat.le_add_left 2 1⟩
theorem res1E : Statement .res1E := ⟨Nat.le_add_left 1 1, Nat.le_add_left 2 1⟩
theorem res1H : Statement .res1H := ⟨Nat.le_add_left 1 1, Nat.le_add_left 2 1⟩
theorem res1L : Statement .res1L := ⟨Nat.le_add_left 1 1, Nat.le_add_left 2 1⟩
theorem res1AtHl : Statement .res1AtHl := ⟨Nat.le_add_left 1 1, Nat.le_add_left 2 1⟩
theorem res1A : Statement .res1A := ⟨Nat.le_add_left 1 1, Nat.le_add_left 2 1⟩
theorem res2B : Statement .res2B := ⟨Nat.le_add_left 1 1, Nat.le_add_left 2 1⟩
theorem res2C : Statement .res2C := ⟨Nat.le_add_left 1 1, Nat.le_add_left 2 1⟩
theorem res2D : Statement .res2D := ⟨Nat.le_add_left 1 1, Nat.le_add_left 2 1⟩
theorem res2E : Statement .res2E := ⟨Nat.le_add_left 1 1, Nat.le_add_left 2 1⟩
theorem res2H : Statement .res2H := ⟨Nat.le_add_left 1 1, Nat.le_add_left 2 1⟩
theorem res2L : Statement .res2L := ⟨Nat.le_add_left 1 1, Nat.le_add_left 2 1⟩
theorem res2AtHl : Statement .res2AtHl := ⟨Nat.le_add_left 1 1, Nat.le_add_left 2 1⟩
theorem res2A : Statement .res2A := ⟨Nat.le_add_left 1 1, Nat.le_add_left 2 1⟩
theorem res3B : Statement .res3B := ⟨Nat.le_add_left 1 1, Nat.le_add_left 2 1⟩
theorem res3C : Statement .res3C := ⟨Nat.le_add_left 1 1, Nat.le_add_left 2 1⟩
theorem res3D : Statement .res3D := ⟨Nat.le_add_left 1 1, Nat.le_add_left 2 1⟩
theorem res3E : Statement .res3E := ⟨Nat.le_add_left 1 1, Nat.le_add_left 2 1⟩
theorem res3H : Statement .res3H := ⟨Nat.le_add_left 1 1, Nat.le_add_left 2 1⟩
theorem res3L : Statement .res3L := ⟨Nat.le_add_left 1 1, Nat.le_add_left 2 1⟩
theorem res3AtHl : Statement .res3AtHl := ⟨Nat.le_add_left 1 1, Nat.le_add_left 2 1⟩
theorem res3A : Statement .res3A := ⟨Nat.le_add_left 1 1, Nat.le_add_left 2 1⟩
theorem res4B : Statement .res4B := ⟨Nat.le_add_left 1 1, Nat.le_add_left 2 1⟩
theorem res4C : Statement .res4C := ⟨Nat.le_add_left 1 1, Nat.le_add_left 2 1⟩
theorem res4D : Statement .res4D := ⟨Nat.le_add_left 1 1, Nat.le_add_left 2 1⟩
theorem res4E : Statement .res4E := ⟨Nat.le_add_left 1 1, Nat.le_add_left 2 1⟩
theorem res4H : Statement .res4H := ⟨Nat.le_add_left 1 1, Nat.le_add_left 2 1⟩
theorem res4L : Statement .res4L := ⟨Nat.le_add_left 1 1, Nat.le_add_left 2 1⟩
theorem res4AtHl : Statement .res4AtHl := ⟨Nat.le_add_left 1 1, Nat.le_add_left 2 1⟩
theorem res4A : Statement .res4A := ⟨Nat.le_add_left 1 1, Nat.le_add_left 2 1⟩
theorem res5B : Statement .res5B := ⟨Nat.le_add_left 1 1, Nat.le_add_left 2 1⟩
theorem res5C : Statement .res5C := ⟨Nat.le_add_left 1 1, Nat.le_add_left 2 1⟩
theorem res5D : Statement .res5D := ⟨Nat.le_add_left 1 1, Nat.le_add_left 2 1⟩
theorem res5E : Statement .res5E := ⟨Nat.le_add_left 1 1, Nat.le_add_left 2 1⟩
theorem res5H : Statement .res5H := ⟨Nat.le_add_left 1 1, Nat.le_add_left 2 1⟩
theorem res5L : Statement .res5L := ⟨Nat.le_add_left 1 1, Nat.le_add_left 2 1⟩
theorem res5AtHl : Statement .res5AtHl := ⟨Nat.le_add_left 1 1, Nat.le_add_left 2 1⟩
theorem res5A : Statement .res5A := ⟨Nat.le_add_left 1 1, Nat.le_add_left 2 1⟩
theorem res6B : Statement .res6B := ⟨Nat.le_add_left 1 1, Nat.le_add_left 2 1⟩
theorem res6C : Statement .res6C := ⟨Nat.le_add_left 1 1, Nat.le_add_left 2 1⟩
theorem res6D : Statement .res6D := ⟨Nat.le_add_left 1 1, Nat.le_add_left 2 1⟩
theorem res6E : Statement .res6E := ⟨Nat.le_add_left 1 1, Nat.le_add_left 2 1⟩
theorem res6H : Statement .res6H := ⟨Nat.le_add_left 1 1, Nat.le_add_left 2 1⟩
theorem res6L : Statement .res6L := ⟨Nat.le_add_left 1 1, Nat.le_add_left 2 1⟩
theorem res6AtHl : Statement .res6AtHl := ⟨Nat.le_add_left 1 1, Nat.le_add_left 2 1⟩
theorem res6A : Statement .res6A := ⟨Nat.le_add_left 1 1, Nat.le_add_left 2 1⟩
theorem res7B : Statement .res7B := ⟨Nat.le_add_left 1 1, Nat.le_add_left 2 1⟩
theorem res7C : Statement .res7C := ⟨Nat.le_add_left 1 1, Nat.le_add_left 2 1⟩
theorem res7D : Statement .res7D := ⟨Nat.le_add_left 1 1, Nat.le_add_left 2 1⟩
theorem res7E : Statement .res7E := ⟨Nat.le_add_left 1 1, Nat.le_add_left 2 1⟩
theorem res7H : Statement .res7H := ⟨Nat.le_add_left 1 1, Nat.le_add_left 2 1⟩
theorem res7L : Statement .res7L := ⟨Nat.le_add_left 1 1, Nat.le_add_left 2 1⟩
theorem res7AtHl : Statement .res7AtHl := ⟨Nat.le_add_left 1 1, Nat.le_add_left 2 1⟩
theorem res7A : Statement .res7A := ⟨Nat.le_add_left 1 1, Nat.le_add_left 2 1⟩
theorem set0B : Statement .set0B := ⟨Nat.le_add_left 1 1, Nat.le_add_left 2 1⟩
theorem set0C : Statement .set0C := ⟨Nat.le_add_left 1 1, Nat.le_add_left 2 1⟩
theorem set0D : Statement .set0D := ⟨Nat.le_add_left 1 1, Nat.le_add_left 2 1⟩
theorem set0E : Statement .set0E := ⟨Nat.le_add_left 1 1, Nat.le_add_left 2 1⟩
theorem set0H : Statement .set0H := ⟨Nat.le_add_left 1 1, Nat.le_add_left 2 1⟩
theorem set0L : Statement .set0L := ⟨Nat.le_add_left 1 1, Nat.le_add_left 2 1⟩
theorem set0AtHl : Statement .set0AtHl := ⟨Nat.le_add_left 1 1, Nat.le_add_left 2 1⟩
theorem set0A : Statement .set0A := ⟨Nat.le_add_left 1 1, Nat.le_add_left 2 1⟩
theorem set1B : Statement .set1B := ⟨Nat.le_add_left 1 1, Nat.le_add_left 2 1⟩
theorem set1C : Statement .set1C := ⟨Nat.le_add_left 1 1, Nat.le_add_left 2 1⟩
theorem set1D : Statement .set1D := ⟨Nat.le_add_left 1 1, Nat.le_add_left 2 1⟩
theorem set1E : Statement .set1E := ⟨Nat.le_add_left 1 1, Nat.le_add_left 2 1⟩
theorem set1H : Statement .set1H := ⟨Nat.le_add_left 1 1, Nat.le_add_left 2 1⟩
theorem set1L : Statement .set1L := ⟨Nat.le_add_left 1 1, Nat.le_add_left 2 1⟩
theorem set1AtHl : Statement .set1AtHl := ⟨Nat.le_add_left 1 1, Nat.le_add_left 2 1⟩
theorem set1A : Statement .set1A := ⟨Nat.le_add_left 1 1, Nat.le_add_left 2 1⟩
theorem set2B : Statement .set2B := ⟨Nat.le_add_left 1 1, Nat.le_add_left 2 1⟩
theorem set2C : Statement .set2C := ⟨Nat.le_add_left 1 1, Nat.le_add_left 2 1⟩
theorem set2D : Statement .set2D := ⟨Nat.le_add_left 1 1, Nat.le_add_left 2 1⟩
theorem set2E : Statement .set2E := ⟨Nat.le_add_left 1 1, Nat.le_add_left 2 1⟩
theorem set2H : Statement .set2H := ⟨Nat.le_add_left 1 1, Nat.le_add_left 2 1⟩
theorem set2L : Statement .set2L := ⟨Nat.le_add_left 1 1, Nat.le_add_left 2 1⟩
theorem set2AtHl : Statement .set2AtHl := ⟨Nat.le_add_left 1 1, Nat.le_add_left 2 1⟩
theorem set2A : Statement .set2A := ⟨Nat.le_add_left 1 1, Nat.le_add_left 2 1⟩
theorem set3B : Statement .set3B := ⟨Nat.le_add_left 1 1, Nat.le_add_left 2 1⟩
theorem set3C : Statement .set3C := ⟨Nat.le_add_left 1 1, Nat.le_add_left 2 1⟩
theorem set3D : Statement .set3D := ⟨Nat.le_add_left 1 1, Nat.le_add_left 2 1⟩
theorem set3E : Statement .set3E := ⟨Nat.le_add_left 1 1, Nat.le_add_left 2 1⟩
theorem set3H : Statement .set3H := ⟨Nat.le_add_left 1 1, Nat.le_add_left 2 1⟩
theorem set3L : Statement .set3L := ⟨Nat.le_add_left 1 1, Nat.le_add_left 2 1⟩
theorem set3AtHl : Statement .set3AtHl := ⟨Nat.le_add_left 1 1, Nat.le_add_left 2 1⟩
theorem set3A : Statement .set3A := ⟨Nat.le_add_left 1 1, Nat.le_add_left 2 1⟩
theorem set4B : Statement .set4B := ⟨Nat.le_add_left 1 1, Nat.le_add_left 2 1⟩
theorem set4C : Statement .set4C := ⟨Nat.le_add_left 1 1, Nat.le_add_left 2 1⟩
theorem set4D : Statement .set4D := ⟨Nat.le_add_left 1 1, Nat.le_add_left 2 1⟩
theorem set4E : Statement .set4E := ⟨Nat.le_add_left 1 1, Nat.le_add_left 2 1⟩
theorem set4H : Statement .set4H := ⟨Nat.le_add_left 1 1, Nat.le_add_left 2 1⟩
theorem set4L : Statement .set4L := ⟨Nat.le_add_left 1 1, Nat.le_add_left 2 1⟩
theorem set4AtHl : Statement .set4AtHl := ⟨Nat.le_add_left 1 1, Nat.le_add_left 2 1⟩
theorem set4A : Statement .set4A := ⟨Nat.le_add_left 1 1, Nat.le_add_left 2 1⟩
theorem set5B : Statement .set5B := ⟨Nat.le_add_left 1 1, Nat.le_add_left 2 1⟩
theorem set5C : Statement .set5C := ⟨Nat.le_add_left 1 1, Nat.le_add_left 2 1⟩
theorem set5D : Statement .set5D := ⟨Nat.le_add_left 1 1, Nat.le_add_left 2 1⟩
theorem set5E : Statement .set5E := ⟨Nat.le_add_left 1 1, Nat.le_add_left 2 1⟩
theorem set5H : Statement .set5H := ⟨Nat.le_add_left 1 1, Nat.le_add_left 2 1⟩
theorem set5L : Statement .set5L := ⟨Nat.le_add_left 1 1, Nat.le_add_left 2 1⟩
theorem set5AtHl : Statement .set5AtHl := ⟨Nat.le_add_left 1 1, Nat.le_add_left 2 1⟩
theorem set5A : Statement .set5A := ⟨Nat.le_add_left 1 1, Nat.le_add_left 2 1⟩
theorem set6B : Statement .set6B := ⟨Nat.le_add_left 1 1, Nat.le_add_left 2 1⟩
theorem set6C : Statement .set6C := ⟨Nat.le_add_left 1 1, Nat.le_add_left 2 1⟩
theorem set6D : Statement .set6D := ⟨Nat.le_add_left 1 1, Nat.le_add_left 2 1⟩
theorem set6E : Statement .set6E := ⟨Nat.le_add_left 1 1, Nat.le_add_left 2 1⟩
theorem set6H : Statement .set6H := ⟨Nat.le_add_left 1 1, Nat.le_add_left 2 1⟩
theorem set6L : Statement .set6L := ⟨Nat.le_add_left 1 1, Nat.le_add_left 2 1⟩
theorem set6AtHl : Statement .set6AtHl := ⟨Nat.le_add_left 1 1, Nat.le_add_left 2 1⟩
theorem set6A : Statement .set6A := ⟨Nat.le_add_left 1 1, Nat.le_add_left 2 1⟩
theorem set7B : Statement .set7B := ⟨Nat.le_add_left 1 1, Nat.le_add_left 2 1⟩
theorem set7C : Statement .set7C := ⟨Nat.le_add_left 1 1, Nat.le_add_left 2 1⟩
theorem set7D : Statement .set7D := ⟨Nat.le_add_left 1 1, Nat.le_add_left 2 1⟩
theorem set7E : Statement .set7E := ⟨Nat.le_add_left 1 1, Nat.le_add_left 2 1⟩
theorem set7H : Statement .set7H := ⟨Nat.le_add_left 1 1, Nat.le_add_left 2 1⟩
theorem set7L : Statement .set7L := ⟨Nat.le_add_left 1 1, Nat.le_add_left 2 1⟩
theorem set7AtHl : Statement .set7AtHl := ⟨Nat.le_add_left 1 1, Nat.le_add_left 2 1⟩
theorem set7A : Statement .set7A := ⟨Nat.le_add_left 1 1, Nat.le_add_left 2 1⟩
theorem prefixCb : Statement .prefixCb := ⟨Nat.le_refl 1, Nat.le_add_left 1 2⟩
theorem unimplementedD3 : Statement .unimplementedD3 := ⟨Nat.le_refl 1, Nat.le_add_left 1 2⟩
theorem unimplementedDB : Statement .unimplementedDB := ⟨Nat.le_refl 1, Nat.le_add_left 1 2⟩
theorem unimplementedDD : Statement .unimplementedDD := ⟨Nat.le_refl 1, Nat.le_add_left 1 2⟩
theorem unimplementedE3 : Statement .unimplementedE3 := ⟨Nat.le_refl 1, Nat.le_add_left 1 2⟩
theorem unimplementedE4 : Statement .unimplementedE4 := ⟨Nat.le_refl 1, Nat.le_add_left 1 2⟩
theorem unimplementedEB : Statement .unimplementedEB := ⟨Nat.le_refl 1, Nat.le_add_left 1 2⟩
theorem unimplementedEC : Statement .unimplementedEC := ⟨Nat.le_refl 1, Nat.le_add_left 1 2⟩
theorem unimplementedED : Statement .unimplementedED := ⟨Nat.le_refl 1, Nat.le_add_left 1 2⟩
theorem unimplementedF4 : Statement .unimplementedF4 := ⟨Nat.le_refl 1, Nat.le_add_left 1 2⟩
theorem unimplementedFC : Statement .unimplementedFC := ⟨Nat.le_refl 1, Nat.le_add_left 1 2⟩
theorem unimplementedFD : Statement .unimplementedFD := ⟨Nat.le_refl 1, Nat.le_add_left 1 2⟩

end Sys2Proof.Laws.EncodeLength
end

