-- ==== Sys2Proof/Laws/Rows.lean ====
section
/-! SUPPORT. What `exec` runs for each row of the maps by field (R88, R90): the shared operation on the row's
operands. So a proof over a family cites one lemma and cases on no constructor. -/

namespace Sys2Proof.Machine

theorem exec_rowLd (dst src : Opnd8) (h : ¬(dst = .atHl ∧ src = .atHl)) (s : State) :
    exec (rowLd dst src) s = .next (opLd dst src s) := by
  rcases dst with ⟨⟨⟩⟩ | _ <;> rcases src with ⟨⟨⟩⟩ | _ <;> first | rfl | exact absurd ⟨rfl, rfl⟩ h

theorem exec_rowLdImm (dst : Opnd8) (n : Byte) (s : State) :
    exec (rowLdImm dst n) s = .next (opLdImm dst n s) := by
  rcases dst with ⟨⟨⟩⟩ | _ <;> rfl

theorem exec_rowAlu (op : AluOp) (src : AluSrc) (s : State) :
    exec (rowAlu op src) s = .next (opAlu op src s) := by
  rcases src with (⟨⟨⟩⟩ | _) | n <;> cases op <;> rfl

theorem exec_rowInc (o : Opnd8) (s : State) : exec (rowInc o) s = .next (opInc o s) := by
  rcases o with ⟨⟨⟩⟩ | _ <;> rfl

theorem exec_rowDec (o : Opnd8) (s : State) : exec (rowDec o) s = .next (opDec o s) := by
  rcases o with ⟨⟨⟩⟩ | _ <;> rfl

theorem exec_rowLdPair (r : Reg16) (nn : Word) (s : State) :
    exec (rowLdPair r nn) s = .next (s.write16 r nn) := by
  cases r <;> rfl

theorem exec_rowAddHl (r : Reg16) (s : State) :
    exec (rowAddHl r) s = .next (opAddHl r s) := by
  cases r <;> rfl

theorem exec_rowIncPair (r : Reg16) (s : State) :
    exec (rowIncPair r) s = .next (s.write16 r (s.read16 r + 1)) := by
  cases r <;> rfl

theorem exec_rowDecPair (r : Reg16) (s : State) :
    exec (rowDecPair r) s = .next (s.write16 r (s.read16 r - 1)) := by
  cases r <;> rfl

theorem exec_rowPush (p : Pair) (s : State) :
    exec (rowPush p) s = .next (s.push16 (s.pair p)) := by
  cases p <;> rfl

theorem exec_rowPop (p : Pair) (s : State) :
    exec (rowPop p) s = .next ((s.drop16).setPair p s.top16) := by
  cases p <;> rfl

theorem exec_rowJp (cc : Cond) (nn : Word) (s : State) :
    exec (rowJp cc nn) s = .next (opJpIf cc nn s) := by
  cases cc <;> rfl

theorem exec_rowJr (cc : Cond) (e8 : Byte) (s : State) :
    exec (rowJr cc e8) s = .next (opJrIf cc e8 s) := by
  cases cc <;> rfl

theorem exec_rowCall (cc : Cond) (nn : Word) (s : State) :
    exec (rowCall cc nn) s = .next (opCallIf cc nn s) := by
  cases cc <;> rfl

theorem exec_rowRet (cc : Cond) (s : State) :
    exec (rowRet cc) s = .next (opRetIf cc s) := by
  cases cc <;> rfl

theorem exec_rowRst (y : Fin 8) (s : State) :
    exec (rowRst y) s = .next (opCall (rstTarget y) s) := by
  match y with
  | 0 | 1 | 2 | 3 | 4 | 5 | 6 | 7 => rfl

theorem exec_rowShift (op : ShiftOp) (o : Opnd8) (s : State) :
    exec (rowShift op o) s = .next (opShift op o s) := by
  rcases o with ⟨⟨⟩⟩ | _ <;> cases op <;> rfl

theorem exec_rowBit (y : Fin 8) (o : Opnd8) (s : State) :
    exec (rowBit y o) s = .next (opBit y o s) := by
  rcases o with ⟨⟨⟩⟩ | _ <;> match y with
    | 0 | 1 | 2 | 3 | 4 | 5 | 6 | 7 => rfl

theorem exec_rowRes (y : Fin 8) (o : Opnd8) (s : State) :
    exec (rowRes y o) s = .next (opRes y o s) := by
  rcases o with ⟨⟨⟩⟩ | _ <;> match y with
    | 0 | 1 | 2 | 3 | 4 | 5 | 6 | 7 => rfl

theorem exec_rowSet (y : Fin 8) (o : Opnd8) (s : State) :
    exec (rowSet y o) s = .next (opSet y o s) := by
  rcases o with ⟨⟨⟩⟩ | _ <;> match y with
    | 0 | 1 | 2 | 3 | 4 | 5 | 6 | 7 => rfl

/-- An F3 instruction stands in memory as its opcode, the low byte and the high byte (R70, R73). -/
theorem encodedAs_imm16 {i : Word → Instr} {op : Byte}
    (he : ∀ nn, encode (i nn) = [op, loByte nn, hiByte nn]) (hd : primaryLookup op = .imm16 i)
    (nn : Word) : EncodedAs (i nn) [op, loByte nn, hiByte nn] :=
  ⟨he nn, fun rest => ⟨.primary op, by
    rw [List.cons_append, List.cons_append, List.cons_append, decode_imm16 hd,
      wordOf_hiByte_loByte]; rfl⟩⟩

/-- Writing PC leaves everything else (R28). -/
theorem onlyPc_setPc (s : State) (v : Word) : OnlyPc s (s.setPc v) :=
  ⟨fun r => by simp, rfl, rfl, fun _ => rfl, rfl, rfl, rfl, rfl, rfl⟩

/-- A condition that does not hold leaves everything (R220). -/
theorem onlyPc_self (s : State) : OnlyPc s s :=
  ⟨fun _ => rfl, rfl, rfl, fun _ => rfl, rfl, rfl, rfl, rfl, rfl⟩

/-- The CB table by fields runs what `exec` runs for the slot's row (R90). -/
theorem exec_cbLookup (op2 : Byte) (s : State) :
    exec (cbLookup op2) s = .next (opCbSlot op2 s) := by
  unfold cbLookup opCbSlot
  generalize fieldX op2 = x
  match x with
  | 0 => exact exec_rowShift _ _ s
  | 1 => exact exec_rowBit _ _ s
  | 2 => exact exec_rowRes _ _ s
  | _ + 3 => exact exec_rowSet _ _ s

end Sys2Proof.Machine
end

