-- ==== Sys2Proof/Laws/Runs.lean ====
section
/-! SUPPORT. Everything one instruction can do, said once: `Runs s i t` lists the shapes of effect by family,
and `exec_runs` shows that `exec` answers one of them for every instruction. A proof over all instructions
cases on the 59 shapes, not on the 512 constructors. -/

namespace Sys2Proof.Machine

/-- `i`, run from `s`, answers the next state `t`, by the family of `i`. -/
inductive Runs (s : State) : Instr → State → Prop where
  | ld (dst src : Opnd8) (h : ¬(dst = .atHl ∧ src = .atHl)) : Runs s (rowLd dst src) (opLd dst src s)
  | ldImm (dst : Opnd8) (n : Byte) : Runs s (rowLdImm dst n) (opLdImm dst n s)
  | ldAAtBc : Runs s .ldAAtBc (opLoadA (s.pair .bc) s)
  | ldAAtDe : Runs s .ldAAtDe (opLoadA (s.pair .de) s)
  | ldAAtA16 (nn : Word) : Runs s (.ldAAtA16 nn) (opLoadA nn s)
  | ldhAAtA8 (n : Byte) : Runs s (.ldhAAtA8 n) (opLoadA (highPage n) s)
  | ldAAtC : Runs s .ldAAtC (opLoadA (highPage s.c) s)
  | ldAtBcA : Runs s .ldAtBcA (opStoreA (s.pair .bc) s)
  | ldAtDeA : Runs s .ldAtDeA (opStoreA (s.pair .de) s)
  | ldAtA16A (nn : Word) : Runs s (.ldAtA16A nn) (opStoreA nn s)
  | ldhAtA8A (n : Byte) : Runs s (.ldhAtA8A n) (opStoreA (highPage n) s)
  | ldAtCA : Runs s .ldAtCA (opStoreA (highPage s.c) s)
  | ldAAtHlInc : Runs s .ldAAtHlInc (opLoadAThenHl 1 s)
  | ldAAtHlDec : Runs s .ldAAtHlDec (opLoadAThenHl (-1) s)
  | ldAtHlIncA : Runs s .ldAtHlIncA (opStoreAThenHl 1 s)
  | ldAtHlDecA : Runs s .ldAtHlDecA (opStoreAThenHl (-1) s)
  | ldPair (r : Reg16) (nn : Word) : Runs s (rowLdPair r nn) (s.write16 r nn)
  | ldSpHl : Runs s .ldSpHl (s.setSp (s.pair .hl))
  | ldAtA16Sp (nn : Word) : Runs s (.ldAtA16Sp nn) (s.store16 nn s.sp)
  | alu (op : AluOp) (src : AluSrc) : Runs s (rowAlu op src) (opAlu op src s)
  | inc (o : Opnd8) : Runs s (rowInc o) (opInc o s)
  | dec (o : Opnd8) : Runs s (rowDec o) (opDec o s)
  | addHl (r : Reg16) : Runs s (rowAddHl r) (opAddHl r s)
  | addSpE8 (e8 : Byte) : Runs s (.addSpE8 e8) (opAddSp e8 s)
  | ldHlSpE8 (e8 : Byte) : Runs s (.ldHlSpE8 e8) (opLdHlSp e8 s)
  | incPair (r : Reg16) : Runs s (rowIncPair r) (s.write16 r (s.read16 r + 1))
  | decPair (r : Reg16) : Runs s (rowDecPair r) (s.write16 r (s.read16 r - 1))
  | push (p : Pair) : Runs s (rowPush p) (s.push16 (s.pair p))
  | pop (p : Pair) : Runs s (rowPop p) ((s.drop16).setPair p s.top16)
  | rlca : Runs s .rlca (opAccRotate .rlc s)
  | rrca : Runs s .rrca (opAccRotate .rrc s)
  | rla : Runs s .rla (opAccRotate .rl s)
  | rra : Runs s .rra (opAccRotate .rr s)
  | shift (op : ShiftOp) (o : Opnd8) : Runs s (rowShift op o) (opShift op o s)
  | bit (y : Fin 8) (o : Opnd8) : Runs s (rowBit y o) (opBit y o s)
  | res (y : Fin 8) (o : Opnd8) : Runs s (rowRes y o) (opRes y o s)
  | set (y : Fin 8) (o : Opnd8) : Runs s (rowSet y o) (opSet y o s)
  | jpA16 (nn : Word) : Runs s (.jpA16 nn) (s.setPc nn)
  | jpHl : Runs s .jpHl (s.setPc (s.pair .hl))
  | jrE8 (e8 : Byte) : Runs s (.jrE8 e8) (opJr e8 s)
  | jpIf (cc : Cond) (nn : Word) : Runs s (rowJp cc nn) (opJpIf cc nn s)
  | jrIf (cc : Cond) (e8 : Byte) : Runs s (rowJr cc e8) (opJrIf cc e8 s)
  | callA16 (nn : Word) : Runs s (.callA16 nn) (opCall nn s)
  | callIf (cc : Cond) (nn : Word) : Runs s (rowCall cc nn) (opCallIf cc nn s)
  | rst (y : Fin 8) : Runs s (rowRst y) (opCall (rstTarget y) s)
  | ret : Runs s .ret (opRet s)
  | retIf (cc : Cond) : Runs s (rowRet cc) (opRetIf cc s)
  | reti : Runs s .reti { opRet s with ime := true }
  | nop : Runs s .nop s
  | di : Runs s .di { s with ime := false }
  | ei : Runs s .ei { s with ime := true }
  | halt : Runs s .halt { s with halted := true }
  | stop (n : Byte) : Runs s (.stop n) { s with stopped := true }
  | ccf : Runs s .ccf (s.setFlags { s.flags with n := false, h := false, c := !s.flags.c })
  | scf : Runs s .scf (s.setFlags { s.flags with n := false, h := false, c := true })
  | cpl : Runs s .cpl { s with a := ~~~s.a, flags := { s.flags with n := true, h := true } }
  | daa : Runs s .daa { s with a := daaResult s.a s.flags, flags := daaFlags s.a s.flags }
  | unimplemented (row : Byte × Instr) (h : row ∈ unimplementedRows) :
    Runs s row.2 (raiseUnimplemented [row.1] s)
  | prefixCb : Runs s .prefixCb (opCbMarker s)

/-- `exec` answers a next state for every instruction, and it is the one of the instruction's family. -/
theorem exec_runs (i : Instr) (s : State) : ∃ t, exec i s = .next t ∧ Runs s i t := by
  cases i with
  | nop => exact ⟨_, rfl, .nop⟩
  | ldBcD16 n => exact ⟨_, rfl, .ldPair .bc n⟩
  | ldAtBcA => exact ⟨_, rfl, .ldAtBcA⟩
  | incBc => exact ⟨_, rfl, .incPair .bc⟩
  | incB => exact ⟨_, rfl, .inc (.reg .b)⟩
  | decB => exact ⟨_, rfl, .dec (.reg .b)⟩
  | ldBD8 n => exact ⟨_, rfl, .ldImm (.reg .b) n⟩
  | rlca => exact ⟨_, rfl, .rlca⟩
  | ldAtA16Sp n => exact ⟨_, rfl, .ldAtA16Sp n⟩
  | addHlBc => exact ⟨_, rfl, .addHl .bc⟩
  | ldAAtBc => exact ⟨_, rfl, .ldAAtBc⟩
  | decBc => exact ⟨_, rfl, .decPair .bc⟩
  | incC => exact ⟨_, rfl, .inc (.reg .c)⟩
  | decC => exact ⟨_, rfl, .dec (.reg .c)⟩
  | ldCD8 n => exact ⟨_, rfl, .ldImm (.reg .c) n⟩
  | rrca => exact ⟨_, rfl, .rrca⟩
  | stop n => exact ⟨_, rfl, .stop n⟩
  | ldDeD16 n => exact ⟨_, rfl, .ldPair .de n⟩
  | ldAtDeA => exact ⟨_, rfl, .ldAtDeA⟩
  | incDe => exact ⟨_, rfl, .incPair .de⟩
  | incD => exact ⟨_, rfl, .inc (.reg .d)⟩
  | decD => exact ⟨_, rfl, .dec (.reg .d)⟩
  | ldDD8 n => exact ⟨_, rfl, .ldImm (.reg .d) n⟩
  | rla => exact ⟨_, rfl, .rla⟩
  | jrE8 n => exact ⟨_, rfl, .jrE8 n⟩
  | addHlDe => exact ⟨_, rfl, .addHl .de⟩
  | ldAAtDe => exact ⟨_, rfl, .ldAAtDe⟩
  | decDe => exact ⟨_, rfl, .decPair .de⟩
  | incE => exact ⟨_, rfl, .inc (.reg .e)⟩
  | decE => exact ⟨_, rfl, .dec (.reg .e)⟩
  | ldED8 n => exact ⟨_, rfl, .ldImm (.reg .e) n⟩
  | rra => exact ⟨_, rfl, .rra⟩
  | jrNzE8 n => exact ⟨_, rfl, .jrIf .nz n⟩
  | ldHlD16 n => exact ⟨_, rfl, .ldPair .hl n⟩
  | ldAtHlIncA => exact ⟨_, rfl, .ldAtHlIncA⟩
  | incHl => exact ⟨_, rfl, .incPair .hl⟩
  | incH => exact ⟨_, rfl, .inc (.reg .h)⟩
  | decH => exact ⟨_, rfl, .dec (.reg .h)⟩
  | ldHD8 n => exact ⟨_, rfl, .ldImm (.reg .h) n⟩
  | daa => exact ⟨_, rfl, .daa⟩
  | jrZE8 n => exact ⟨_, rfl, .jrIf .z n⟩
  | addHlHl => exact ⟨_, rfl, .addHl .hl⟩
  | ldAAtHlInc => exact ⟨_, rfl, .ldAAtHlInc⟩
  | decHl => exact ⟨_, rfl, .decPair .hl⟩
  | incL => exact ⟨_, rfl, .inc (.reg .l)⟩
  | decL => exact ⟨_, rfl, .dec (.reg .l)⟩
  | ldLD8 n => exact ⟨_, rfl, .ldImm (.reg .l) n⟩
  | cpl => exact ⟨_, rfl, .cpl⟩
  | jrNcE8 n => exact ⟨_, rfl, .jrIf .nc n⟩
  | ldSpD16 n => exact ⟨_, rfl, .ldPair .sp n⟩
  | ldAtHlDecA => exact ⟨_, rfl, .ldAtHlDecA⟩
  | incSp => exact ⟨_, rfl, .incPair .sp⟩
  | incAtHl => exact ⟨_, rfl, .inc .atHl⟩
  | decAtHl => exact ⟨_, rfl, .dec .atHl⟩
  | ldAtHlD8 n => exact ⟨_, rfl, .ldImm .atHl n⟩
  | scf => exact ⟨_, rfl, .scf⟩
  | jrCE8 n => exact ⟨_, rfl, .jrIf .c n⟩
  | addHlSp => exact ⟨_, rfl, .addHl .sp⟩
  | ldAAtHlDec => exact ⟨_, rfl, .ldAAtHlDec⟩
  | decSp => exact ⟨_, rfl, .decPair .sp⟩
  | incA => exact ⟨_, rfl, .inc (.reg .a)⟩
  | decA => exact ⟨_, rfl, .dec (.reg .a)⟩
  | ldAD8 n => exact ⟨_, rfl, .ldImm (.reg .a) n⟩
  | ccf => exact ⟨_, rfl, .ccf⟩
  | ldBB => exact ⟨_, rfl, .ld (.reg .b) (.reg .b) (by simp)⟩
  | ldBC => exact ⟨_, rfl, .ld (.reg .b) (.reg .c) (by simp)⟩
  | ldBD => exact ⟨_, rfl, .ld (.reg .b) (.reg .d) (by simp)⟩
  | ldBE => exact ⟨_, rfl, .ld (.reg .b) (.reg .e) (by simp)⟩
  | ldBH => exact ⟨_, rfl, .ld (.reg .b) (.reg .h) (by simp)⟩
  | ldBL => exact ⟨_, rfl, .ld (.reg .b) (.reg .l) (by simp)⟩
  | ldBAtHl => exact ⟨_, rfl, .ld (.reg .b) .atHl (by simp)⟩
  | ldBA => exact ⟨_, rfl, .ld (.reg .b) (.reg .a) (by simp)⟩
  | ldCB => exact ⟨_, rfl, .ld (.reg .c) (.reg .b) (by simp)⟩
  | ldCC => exact ⟨_, rfl, .ld (.reg .c) (.reg .c) (by simp)⟩
  | ldCD => exact ⟨_, rfl, .ld (.reg .c) (.reg .d) (by simp)⟩
  | ldCE => exact ⟨_, rfl, .ld (.reg .c) (.reg .e) (by simp)⟩
  | ldCH => exact ⟨_, rfl, .ld (.reg .c) (.reg .h) (by simp)⟩
  | ldCL => exact ⟨_, rfl, .ld (.reg .c) (.reg .l) (by simp)⟩
  | ldCAtHl => exact ⟨_, rfl, .ld (.reg .c) .atHl (by simp)⟩
  | ldCA => exact ⟨_, rfl, .ld (.reg .c) (.reg .a) (by simp)⟩
  | ldDB => exact ⟨_, rfl, .ld (.reg .d) (.reg .b) (by simp)⟩
  | ldDC => exact ⟨_, rfl, .ld (.reg .d) (.reg .c) (by simp)⟩
  | ldDD => exact ⟨_, rfl, .ld (.reg .d) (.reg .d) (by simp)⟩
  | ldDE => exact ⟨_, rfl, .ld (.reg .d) (.reg .e) (by simp)⟩
  | ldDH => exact ⟨_, rfl, .ld (.reg .d) (.reg .h) (by simp)⟩
  | ldDL => exact ⟨_, rfl, .ld (.reg .d) (.reg .l) (by simp)⟩
  | ldDAtHl => exact ⟨_, rfl, .ld (.reg .d) .atHl (by simp)⟩
  | ldDA => exact ⟨_, rfl, .ld (.reg .d) (.reg .a) (by simp)⟩
  | ldEB => exact ⟨_, rfl, .ld (.reg .e) (.reg .b) (by simp)⟩
  | ldEC => exact ⟨_, rfl, .ld (.reg .e) (.reg .c) (by simp)⟩
  | ldED => exact ⟨_, rfl, .ld (.reg .e) (.reg .d) (by simp)⟩
  | ldEE => exact ⟨_, rfl, .ld (.reg .e) (.reg .e) (by simp)⟩
  | ldEH => exact ⟨_, rfl, .ld (.reg .e) (.reg .h) (by simp)⟩
  | ldEL => exact ⟨_, rfl, .ld (.reg .e) (.reg .l) (by simp)⟩
  | ldEAtHl => exact ⟨_, rfl, .ld (.reg .e) .atHl (by simp)⟩
  | ldEA => exact ⟨_, rfl, .ld (.reg .e) (.reg .a) (by simp)⟩
  | ldHB => exact ⟨_, rfl, .ld (.reg .h) (.reg .b) (by simp)⟩
  | ldHC => exact ⟨_, rfl, .ld (.reg .h) (.reg .c) (by simp)⟩
  | ldHD => exact ⟨_, rfl, .ld (.reg .h) (.reg .d) (by simp)⟩
  | ldHE => exact ⟨_, rfl, .ld (.reg .h) (.reg .e) (by simp)⟩
  | ldHH => exact ⟨_, rfl, .ld (.reg .h) (.reg .h) (by simp)⟩
  | ldHL => exact ⟨_, rfl, .ld (.reg .h) (.reg .l) (by simp)⟩
  | ldHAtHl => exact ⟨_, rfl, .ld (.reg .h) .atHl (by simp)⟩
  | ldHA => exact ⟨_, rfl, .ld (.reg .h) (.reg .a) (by simp)⟩
  | ldLB => exact ⟨_, rfl, .ld (.reg .l) (.reg .b) (by simp)⟩
  | ldLC => exact ⟨_, rfl, .ld (.reg .l) (.reg .c) (by simp)⟩
  | ldLD => exact ⟨_, rfl, .ld (.reg .l) (.reg .d) (by simp)⟩
  | ldLE => exact ⟨_, rfl, .ld (.reg .l) (.reg .e) (by simp)⟩
  | ldLH => exact ⟨_, rfl, .ld (.reg .l) (.reg .h) (by simp)⟩
  | ldLL => exact ⟨_, rfl, .ld (.reg .l) (.reg .l) (by simp)⟩
  | ldLAtHl => exact ⟨_, rfl, .ld (.reg .l) .atHl (by simp)⟩
  | ldLA => exact ⟨_, rfl, .ld (.reg .l) (.reg .a) (by simp)⟩
  | ldAtHlB => exact ⟨_, rfl, .ld .atHl (.reg .b) (by simp)⟩
  | ldAtHlC => exact ⟨_, rfl, .ld .atHl (.reg .c) (by simp)⟩
  | ldAtHlD => exact ⟨_, rfl, .ld .atHl (.reg .d) (by simp)⟩
  | ldAtHlE => exact ⟨_, rfl, .ld .atHl (.reg .e) (by simp)⟩
  | ldAtHlH => exact ⟨_, rfl, .ld .atHl (.reg .h) (by simp)⟩
  | ldAtHlL => exact ⟨_, rfl, .ld .atHl (.reg .l) (by simp)⟩
  | halt => exact ⟨_, rfl, .halt⟩
  | ldAtHlA => exact ⟨_, rfl, .ld .atHl (.reg .a) (by simp)⟩
  | ldAB => exact ⟨_, rfl, .ld (.reg .a) (.reg .b) (by simp)⟩
  | ldAC => exact ⟨_, rfl, .ld (.reg .a) (.reg .c) (by simp)⟩
  | ldAD => exact ⟨_, rfl, .ld (.reg .a) (.reg .d) (by simp)⟩
  | ldAE => exact ⟨_, rfl, .ld (.reg .a) (.reg .e) (by simp)⟩
  | ldAH => exact ⟨_, rfl, .ld (.reg .a) (.reg .h) (by simp)⟩
  | ldAL => exact ⟨_, rfl, .ld (.reg .a) (.reg .l) (by simp)⟩
  | ldAAtHl => exact ⟨_, rfl, .ld (.reg .a) .atHl (by simp)⟩
  | ldAA => exact ⟨_, rfl, .ld (.reg .a) (.reg .a) (by simp)⟩
  | addAB => exact ⟨_, rfl, .alu .add (.opnd (.reg .b))⟩
  | addAC => exact ⟨_, rfl, .alu .add (.opnd (.reg .c))⟩
  | addAD => exact ⟨_, rfl, .alu .add (.opnd (.reg .d))⟩
  | addAE => exact ⟨_, rfl, .alu .add (.opnd (.reg .e))⟩
  | addAH => exact ⟨_, rfl, .alu .add (.opnd (.reg .h))⟩
  | addAL => exact ⟨_, rfl, .alu .add (.opnd (.reg .l))⟩
  | addAAtHl => exact ⟨_, rfl, .alu .add (.opnd .atHl)⟩
  | addAA => exact ⟨_, rfl, .alu .add (.opnd (.reg .a))⟩
  | adcAB => exact ⟨_, rfl, .alu .adc (.opnd (.reg .b))⟩
  | adcAC => exact ⟨_, rfl, .alu .adc (.opnd (.reg .c))⟩
  | adcAD => exact ⟨_, rfl, .alu .adc (.opnd (.reg .d))⟩
  | adcAE => exact ⟨_, rfl, .alu .adc (.opnd (.reg .e))⟩
  | adcAH => exact ⟨_, rfl, .alu .adc (.opnd (.reg .h))⟩
  | adcAL => exact ⟨_, rfl, .alu .adc (.opnd (.reg .l))⟩
  | adcAAtHl => exact ⟨_, rfl, .alu .adc (.opnd .atHl)⟩
  | adcAA => exact ⟨_, rfl, .alu .adc (.opnd (.reg .a))⟩
  | subAB => exact ⟨_, rfl, .alu .sub (.opnd (.reg .b))⟩
  | subAC => exact ⟨_, rfl, .alu .sub (.opnd (.reg .c))⟩
  | subAD => exact ⟨_, rfl, .alu .sub (.opnd (.reg .d))⟩
  | subAE => exact ⟨_, rfl, .alu .sub (.opnd (.reg .e))⟩
  | subAH => exact ⟨_, rfl, .alu .sub (.opnd (.reg .h))⟩
  | subAL => exact ⟨_, rfl, .alu .sub (.opnd (.reg .l))⟩
  | subAAtHl => exact ⟨_, rfl, .alu .sub (.opnd .atHl)⟩
  | subAA => exact ⟨_, rfl, .alu .sub (.opnd (.reg .a))⟩
  | sbcAB => exact ⟨_, rfl, .alu .sbc (.opnd (.reg .b))⟩
  | sbcAC => exact ⟨_, rfl, .alu .sbc (.opnd (.reg .c))⟩
  | sbcAD => exact ⟨_, rfl, .alu .sbc (.opnd (.reg .d))⟩
  | sbcAE => exact ⟨_, rfl, .alu .sbc (.opnd (.reg .e))⟩
  | sbcAH => exact ⟨_, rfl, .alu .sbc (.opnd (.reg .h))⟩
  | sbcAL => exact ⟨_, rfl, .alu .sbc (.opnd (.reg .l))⟩
  | sbcAAtHl => exact ⟨_, rfl, .alu .sbc (.opnd .atHl)⟩
  | sbcAA => exact ⟨_, rfl, .alu .sbc (.opnd (.reg .a))⟩
  | andAB => exact ⟨_, rfl, .alu .and (.opnd (.reg .b))⟩
  | andAC => exact ⟨_, rfl, .alu .and (.opnd (.reg .c))⟩
  | andAD => exact ⟨_, rfl, .alu .and (.opnd (.reg .d))⟩
  | andAE => exact ⟨_, rfl, .alu .and (.opnd (.reg .e))⟩
  | andAH => exact ⟨_, rfl, .alu .and (.opnd (.reg .h))⟩
  | andAL => exact ⟨_, rfl, .alu .and (.opnd (.reg .l))⟩
  | andAAtHl => exact ⟨_, rfl, .alu .and (.opnd .atHl)⟩
  | andAA => exact ⟨_, rfl, .alu .and (.opnd (.reg .a))⟩
  | xorAB => exact ⟨_, rfl, .alu .xor (.opnd (.reg .b))⟩
  | xorAC => exact ⟨_, rfl, .alu .xor (.opnd (.reg .c))⟩
  | xorAD => exact ⟨_, rfl, .alu .xor (.opnd (.reg .d))⟩
  | xorAE => exact ⟨_, rfl, .alu .xor (.opnd (.reg .e))⟩
  | xorAH => exact ⟨_, rfl, .alu .xor (.opnd (.reg .h))⟩
  | xorAL => exact ⟨_, rfl, .alu .xor (.opnd (.reg .l))⟩
  | xorAAtHl => exact ⟨_, rfl, .alu .xor (.opnd .atHl)⟩
  | xorAA => exact ⟨_, rfl, .alu .xor (.opnd (.reg .a))⟩
  | orAB => exact ⟨_, rfl, .alu .or (.opnd (.reg .b))⟩
  | orAC => exact ⟨_, rfl, .alu .or (.opnd (.reg .c))⟩
  | orAD => exact ⟨_, rfl, .alu .or (.opnd (.reg .d))⟩
  | orAE => exact ⟨_, rfl, .alu .or (.opnd (.reg .e))⟩
  | orAH => exact ⟨_, rfl, .alu .or (.opnd (.reg .h))⟩
  | orAL => exact ⟨_, rfl, .alu .or (.opnd (.reg .l))⟩
  | orAAtHl => exact ⟨_, rfl, .alu .or (.opnd .atHl)⟩
  | orAA => exact ⟨_, rfl, .alu .or (.opnd (.reg .a))⟩
  | cpAB => exact ⟨_, rfl, .alu .cp (.opnd (.reg .b))⟩
  | cpAC => exact ⟨_, rfl, .alu .cp (.opnd (.reg .c))⟩
  | cpAD => exact ⟨_, rfl, .alu .cp (.opnd (.reg .d))⟩
  | cpAE => exact ⟨_, rfl, .alu .cp (.opnd (.reg .e))⟩
  | cpAH => exact ⟨_, rfl, .alu .cp (.opnd (.reg .h))⟩
  | cpAL => exact ⟨_, rfl, .alu .cp (.opnd (.reg .l))⟩
  | cpAAtHl => exact ⟨_, rfl, .alu .cp (.opnd .atHl)⟩
  | cpAA => exact ⟨_, rfl, .alu .cp (.opnd (.reg .a))⟩
  | retNz => exact ⟨_, rfl, .retIf .nz⟩
  | popBc => exact ⟨_, rfl, .pop .bc⟩
  | jpNzA16 n => exact ⟨_, rfl, .jpIf .nz n⟩
  | jpA16 n => exact ⟨_, rfl, .jpA16 n⟩
  | callNzA16 n => exact ⟨_, rfl, .callIf .nz n⟩
  | pushBc => exact ⟨_, rfl, .push .bc⟩
  | addAD8 n => exact ⟨_, rfl, .alu .add (.imm n)⟩
  | rst00 => exact ⟨_, rfl, .rst 0⟩
  | retZ => exact ⟨_, rfl, .retIf .z⟩
  | ret => exact ⟨_, rfl, .ret⟩
  | jpZA16 n => exact ⟨_, rfl, .jpIf .z n⟩
  | callZA16 n => exact ⟨_, rfl, .callIf .z n⟩
  | callA16 n => exact ⟨_, rfl, .callA16 n⟩
  | adcAD8 n => exact ⟨_, rfl, .alu .adc (.imm n)⟩
  | rst08 => exact ⟨_, rfl, .rst 1⟩
  | retNc => exact ⟨_, rfl, .retIf .nc⟩
  | popDe => exact ⟨_, rfl, .pop .de⟩
  | jpNcA16 n => exact ⟨_, rfl, .jpIf .nc n⟩
  | callNcA16 n => exact ⟨_, rfl, .callIf .nc n⟩
  | pushDe => exact ⟨_, rfl, .push .de⟩
  | subAD8 n => exact ⟨_, rfl, .alu .sub (.imm n)⟩
  | rst10 => exact ⟨_, rfl, .rst 2⟩
  | retC => exact ⟨_, rfl, .retIf .c⟩
  | reti => exact ⟨_, rfl, .reti⟩
  | jpCA16 n => exact ⟨_, rfl, .jpIf .c n⟩
  | callCA16 n => exact ⟨_, rfl, .callIf .c n⟩
  | sbcAD8 n => exact ⟨_, rfl, .alu .sbc (.imm n)⟩
  | rst18 => exact ⟨_, rfl, .rst 3⟩
  | ldhAtA8A n => exact ⟨_, rfl, .ldhAtA8A n⟩
  | popHl => exact ⟨_, rfl, .pop .hl⟩
  | ldAtCA => exact ⟨_, rfl, .ldAtCA⟩
  | pushHl => exact ⟨_, rfl, .push .hl⟩
  | andAD8 n => exact ⟨_, rfl, .alu .and (.imm n)⟩
  | rst20 => exact ⟨_, rfl, .rst 4⟩
  | addSpE8 n => exact ⟨_, rfl, .addSpE8 n⟩
  | jpHl => exact ⟨_, rfl, .jpHl⟩
  | ldAtA16A n => exact ⟨_, rfl, .ldAtA16A n⟩
  | xorAD8 n => exact ⟨_, rfl, .alu .xor (.imm n)⟩
  | rst28 => exact ⟨_, rfl, .rst 5⟩
  | ldhAAtA8 n => exact ⟨_, rfl, .ldhAAtA8 n⟩
  | popAf => exact ⟨_, rfl, .pop .af⟩
  | ldAAtC => exact ⟨_, rfl, .ldAAtC⟩
  | di => exact ⟨_, rfl, .di⟩
  | pushAf => exact ⟨_, rfl, .push .af⟩
  | orAD8 n => exact ⟨_, rfl, .alu .or (.imm n)⟩
  | rst30 => exact ⟨_, rfl, .rst 6⟩
  | ldHlSpE8 n => exact ⟨_, rfl, .ldHlSpE8 n⟩
  | ldSpHl => exact ⟨_, rfl, .ldSpHl⟩
  | ldAAtA16 n => exact ⟨_, rfl, .ldAAtA16 n⟩
  | ei => exact ⟨_, rfl, .ei⟩
  | cpAD8 n => exact ⟨_, rfl, .alu .cp (.imm n)⟩
  | rst38 => exact ⟨_, rfl, .rst 7⟩
  | rlcB => exact ⟨_, rfl, .shift .rlc (.reg .b)⟩
  | rlcC => exact ⟨_, rfl, .shift .rlc (.reg .c)⟩
  | rlcD => exact ⟨_, rfl, .shift .rlc (.reg .d)⟩
  | rlcE => exact ⟨_, rfl, .shift .rlc (.reg .e)⟩
  | rlcH => exact ⟨_, rfl, .shift .rlc (.reg .h)⟩
  | rlcL => exact ⟨_, rfl, .shift .rlc (.reg .l)⟩
  | rlcAtHl => exact ⟨_, rfl, .shift .rlc .atHl⟩
  | rlcA => exact ⟨_, rfl, .shift .rlc (.reg .a)⟩
  | rrcB => exact ⟨_, rfl, .shift .rrc (.reg .b)⟩
  | rrcC => exact ⟨_, rfl, .shift .rrc (.reg .c)⟩
  | rrcD => exact ⟨_, rfl, .shift .rrc (.reg .d)⟩
  | rrcE => exact ⟨_, rfl, .shift .rrc (.reg .e)⟩
  | rrcH => exact ⟨_, rfl, .shift .rrc (.reg .h)⟩
  | rrcL => exact ⟨_, rfl, .shift .rrc (.reg .l)⟩
  | rrcAtHl => exact ⟨_, rfl, .shift .rrc .atHl⟩
  | rrcA => exact ⟨_, rfl, .shift .rrc (.reg .a)⟩
  | rlB => exact ⟨_, rfl, .shift .rl (.reg .b)⟩
  | rlC => exact ⟨_, rfl, .shift .rl (.reg .c)⟩
  | rlD => exact ⟨_, rfl, .shift .rl (.reg .d)⟩
  | rlE => exact ⟨_, rfl, .shift .rl (.reg .e)⟩
  | rlH => exact ⟨_, rfl, .shift .rl (.reg .h)⟩
  | rlL => exact ⟨_, rfl, .shift .rl (.reg .l)⟩
  | rlAtHl => exact ⟨_, rfl, .shift .rl .atHl⟩
  | rlA => exact ⟨_, rfl, .shift .rl (.reg .a)⟩
  | rrB => exact ⟨_, rfl, .shift .rr (.reg .b)⟩
  | rrC => exact ⟨_, rfl, .shift .rr (.reg .c)⟩
  | rrD => exact ⟨_, rfl, .shift .rr (.reg .d)⟩
  | rrE => exact ⟨_, rfl, .shift .rr (.reg .e)⟩
  | rrH => exact ⟨_, rfl, .shift .rr (.reg .h)⟩
  | rrL => exact ⟨_, rfl, .shift .rr (.reg .l)⟩
  | rrAtHl => exact ⟨_, rfl, .shift .rr .atHl⟩
  | rrA => exact ⟨_, rfl, .shift .rr (.reg .a)⟩
  | slaB => exact ⟨_, rfl, .shift .sla (.reg .b)⟩
  | slaC => exact ⟨_, rfl, .shift .sla (.reg .c)⟩
  | slaD => exact ⟨_, rfl, .shift .sla (.reg .d)⟩
  | slaE => exact ⟨_, rfl, .shift .sla (.reg .e)⟩
  | slaH => exact ⟨_, rfl, .shift .sla (.reg .h)⟩
  | slaL => exact ⟨_, rfl, .shift .sla (.reg .l)⟩
  | slaAtHl => exact ⟨_, rfl, .shift .sla .atHl⟩
  | slaA => exact ⟨_, rfl, .shift .sla (.reg .a)⟩
  | sraB => exact ⟨_, rfl, .shift .sra (.reg .b)⟩
  | sraC => exact ⟨_, rfl, .shift .sra (.reg .c)⟩
  | sraD => exact ⟨_, rfl, .shift .sra (.reg .d)⟩
  | sraE => exact ⟨_, rfl, .shift .sra (.reg .e)⟩
  | sraH => exact ⟨_, rfl, .shift .sra (.reg .h)⟩
  | sraL => exact ⟨_, rfl, .shift .sra (.reg .l)⟩
  | sraAtHl => exact ⟨_, rfl, .shift .sra .atHl⟩
  | sraA => exact ⟨_, rfl, .shift .sra (.reg .a)⟩
  | swapB => exact ⟨_, rfl, .shift .swap (.reg .b)⟩
  | swapC => exact ⟨_, rfl, .shift .swap (.reg .c)⟩
  | swapD => exact ⟨_, rfl, .shift .swap (.reg .d)⟩
  | swapE => exact ⟨_, rfl, .shift .swap (.reg .e)⟩
  | swapH => exact ⟨_, rfl, .shift .swap (.reg .h)⟩
  | swapL => exact ⟨_, rfl, .shift .swap (.reg .l)⟩
  | swapAtHl => exact ⟨_, rfl, .shift .swap .atHl⟩
  | swapA => exact ⟨_, rfl, .shift .swap (.reg .a)⟩
  | srlB => exact ⟨_, rfl, .shift .srl (.reg .b)⟩
  | srlC => exact ⟨_, rfl, .shift .srl (.reg .c)⟩
  | srlD => exact ⟨_, rfl, .shift .srl (.reg .d)⟩
  | srlE => exact ⟨_, rfl, .shift .srl (.reg .e)⟩
  | srlH => exact ⟨_, rfl, .shift .srl (.reg .h)⟩
  | srlL => exact ⟨_, rfl, .shift .srl (.reg .l)⟩
  | srlAtHl => exact ⟨_, rfl, .shift .srl .atHl⟩
  | srlA => exact ⟨_, rfl, .shift .srl (.reg .a)⟩
  | bit0B => exact ⟨_, rfl, .bit 0 (.reg .b)⟩
  | bit0C => exact ⟨_, rfl, .bit 0 (.reg .c)⟩
  | bit0D => exact ⟨_, rfl, .bit 0 (.reg .d)⟩
  | bit0E => exact ⟨_, rfl, .bit 0 (.reg .e)⟩
  | bit0H => exact ⟨_, rfl, .bit 0 (.reg .h)⟩
  | bit0L => exact ⟨_, rfl, .bit 0 (.reg .l)⟩
  | bit0AtHl => exact ⟨_, rfl, .bit 0 .atHl⟩
  | bit0A => exact ⟨_, rfl, .bit 0 (.reg .a)⟩
  | bit1B => exact ⟨_, rfl, .bit 1 (.reg .b)⟩
  | bit1C => exact ⟨_, rfl, .bit 1 (.reg .c)⟩
  | bit1D => exact ⟨_, rfl, .bit 1 (.reg .d)⟩
  | bit1E => exact ⟨_, rfl, .bit 1 (.reg .e)⟩
  | bit1H => exact ⟨_, rfl, .bit 1 (.reg .h)⟩
  | bit1L => exact ⟨_, rfl, .bit 1 (.reg .l)⟩
  | bit1AtHl => exact ⟨_, rfl, .bit 1 .atHl⟩
  | bit1A => exact ⟨_, rfl, .bit 1 (.reg .a)⟩
  | bit2B => exact ⟨_, rfl, .bit 2 (.reg .b)⟩
  | bit2C => exact ⟨_, rfl, .bit 2 (.reg .c)⟩
  | bit2D => exact ⟨_, rfl, .bit 2 (.reg .d)⟩
  | bit2E => exact ⟨_, rfl, .bit 2 (.reg .e)⟩
  | bit2H => exact ⟨_, rfl, .bit 2 (.reg .h)⟩
  | bit2L => exact ⟨_, rfl, .bit 2 (.reg .l)⟩
  | bit2AtHl => exact ⟨_, rfl, .bit 2 .atHl⟩
  | bit2A => exact ⟨_, rfl, .bit 2 (.reg .a)⟩
  | bit3B => exact ⟨_, rfl, .bit 3 (.reg .b)⟩
  | bit3C => exact ⟨_, rfl, .bit 3 (.reg .c)⟩
  | bit3D => exact ⟨_, rfl, .bit 3 (.reg .d)⟩
  | bit3E => exact ⟨_, rfl, .bit 3 (.reg .e)⟩
  | bit3H => exact ⟨_, rfl, .bit 3 (.reg .h)⟩
  | bit3L => exact ⟨_, rfl, .bit 3 (.reg .l)⟩
  | bit3AtHl => exact ⟨_, rfl, .bit 3 .atHl⟩
  | bit3A => exact ⟨_, rfl, .bit 3 (.reg .a)⟩
  | bit4B => exact ⟨_, rfl, .bit 4 (.reg .b)⟩
  | bit4C => exact ⟨_, rfl, .bit 4 (.reg .c)⟩
  | bit4D => exact ⟨_, rfl, .bit 4 (.reg .d)⟩
  | bit4E => exact ⟨_, rfl, .bit 4 (.reg .e)⟩
  | bit4H => exact ⟨_, rfl, .bit 4 (.reg .h)⟩
  | bit4L => exact ⟨_, rfl, .bit 4 (.reg .l)⟩
  | bit4AtHl => exact ⟨_, rfl, .bit 4 .atHl⟩
  | bit4A => exact ⟨_, rfl, .bit 4 (.reg .a)⟩
  | bit5B => exact ⟨_, rfl, .bit 5 (.reg .b)⟩
  | bit5C => exact ⟨_, rfl, .bit 5 (.reg .c)⟩
  | bit5D => exact ⟨_, rfl, .bit 5 (.reg .d)⟩
  | bit5E => exact ⟨_, rfl, .bit 5 (.reg .e)⟩
  | bit5H => exact ⟨_, rfl, .bit 5 (.reg .h)⟩
  | bit5L => exact ⟨_, rfl, .bit 5 (.reg .l)⟩
  | bit5AtHl => exact ⟨_, rfl, .bit 5 .atHl⟩
  | bit5A => exact ⟨_, rfl, .bit 5 (.reg .a)⟩
  | bit6B => exact ⟨_, rfl, .bit 6 (.reg .b)⟩
  | bit6C => exact ⟨_, rfl, .bit 6 (.reg .c)⟩
  | bit6D => exact ⟨_, rfl, .bit 6 (.reg .d)⟩
  | bit6E => exact ⟨_, rfl, .bit 6 (.reg .e)⟩
  | bit6H => exact ⟨_, rfl, .bit 6 (.reg .h)⟩
  | bit6L => exact ⟨_, rfl, .bit 6 (.reg .l)⟩
  | bit6AtHl => exact ⟨_, rfl, .bit 6 .atHl⟩
  | bit6A => exact ⟨_, rfl, .bit 6 (.reg .a)⟩
  | bit7B => exact ⟨_, rfl, .bit 7 (.reg .b)⟩
  | bit7C => exact ⟨_, rfl, .bit 7 (.reg .c)⟩
  | bit7D => exact ⟨_, rfl, .bit 7 (.reg .d)⟩
  | bit7E => exact ⟨_, rfl, .bit 7 (.reg .e)⟩
  | bit7H => exact ⟨_, rfl, .bit 7 (.reg .h)⟩
  | bit7L => exact ⟨_, rfl, .bit 7 (.reg .l)⟩
  | bit7AtHl => exact ⟨_, rfl, .bit 7 .atHl⟩
  | bit7A => exact ⟨_, rfl, .bit 7 (.reg .a)⟩
  | res0B => exact ⟨_, rfl, .res 0 (.reg .b)⟩
  | res0C => exact ⟨_, rfl, .res 0 (.reg .c)⟩
  | res0D => exact ⟨_, rfl, .res 0 (.reg .d)⟩
  | res0E => exact ⟨_, rfl, .res 0 (.reg .e)⟩
  | res0H => exact ⟨_, rfl, .res 0 (.reg .h)⟩
  | res0L => exact ⟨_, rfl, .res 0 (.reg .l)⟩
  | res0AtHl => exact ⟨_, rfl, .res 0 .atHl⟩
  | res0A => exact ⟨_, rfl, .res 0 (.reg .a)⟩
  | res1B => exact ⟨_, rfl, .res 1 (.reg .b)⟩
  | res1C => exact ⟨_, rfl, .res 1 (.reg .c)⟩
  | res1D => exact ⟨_, rfl, .res 1 (.reg .d)⟩
  | res1E => exact ⟨_, rfl, .res 1 (.reg .e)⟩
  | res1H => exact ⟨_, rfl, .res 1 (.reg .h)⟩
  | res1L => exact ⟨_, rfl, .res 1 (.reg .l)⟩
  | res1AtHl => exact ⟨_, rfl, .res 1 .atHl⟩
  | res1A => exact ⟨_, rfl, .res 1 (.reg .a)⟩
  | res2B => exact ⟨_, rfl, .res 2 (.reg .b)⟩
  | res2C => exact ⟨_, rfl, .res 2 (.reg .c)⟩
  | res2D => exact ⟨_, rfl, .res 2 (.reg .d)⟩
  | res2E => exact ⟨_, rfl, .res 2 (.reg .e)⟩
  | res2H => exact ⟨_, rfl, .res 2 (.reg .h)⟩
  | res2L => exact ⟨_, rfl, .res 2 (.reg .l)⟩
  | res2AtHl => exact ⟨_, rfl, .res 2 .atHl⟩
  | res2A => exact ⟨_, rfl, .res 2 (.reg .a)⟩
  | res3B => exact ⟨_, rfl, .res 3 (.reg .b)⟩
  | res3C => exact ⟨_, rfl, .res 3 (.reg .c)⟩
  | res3D => exact ⟨_, rfl, .res 3 (.reg .d)⟩
  | res3E => exact ⟨_, rfl, .res 3 (.reg .e)⟩
  | res3H => exact ⟨_, rfl, .res 3 (.reg .h)⟩
  | res3L => exact ⟨_, rfl, .res 3 (.reg .l)⟩
  | res3AtHl => exact ⟨_, rfl, .res 3 .atHl⟩
  | res3A => exact ⟨_, rfl, .res 3 (.reg .a)⟩
  | res4B => exact ⟨_, rfl, .res 4 (.reg .b)⟩
  | res4C => exact ⟨_, rfl, .res 4 (.reg .c)⟩
  | res4D => exact ⟨_, rfl, .res 4 (.reg .d)⟩
  | res4E => exact ⟨_, rfl, .res 4 (.reg .e)⟩
  | res4H => exact ⟨_, rfl, .res 4 (.reg .h)⟩
  | res4L => exact ⟨_, rfl, .res 4 (.reg .l)⟩
  | res4AtHl => exact ⟨_, rfl, .res 4 .atHl⟩
  | res4A => exact ⟨_, rfl, .res 4 (.reg .a)⟩
  | res5B => exact ⟨_, rfl, .res 5 (.reg .b)⟩
  | res5C => exact ⟨_, rfl, .res 5 (.reg .c)⟩
  | res5D => exact ⟨_, rfl, .res 5 (.reg .d)⟩
  | res5E => exact ⟨_, rfl, .res 5 (.reg .e)⟩
  | res5H => exact ⟨_, rfl, .res 5 (.reg .h)⟩
  | res5L => exact ⟨_, rfl, .res 5 (.reg .l)⟩
  | res5AtHl => exact ⟨_, rfl, .res 5 .atHl⟩
  | res5A => exact ⟨_, rfl, .res 5 (.reg .a)⟩
  | res6B => exact ⟨_, rfl, .res 6 (.reg .b)⟩
  | res6C => exact ⟨_, rfl, .res 6 (.reg .c)⟩
  | res6D => exact ⟨_, rfl, .res 6 (.reg .d)⟩
  | res6E => exact ⟨_, rfl, .res 6 (.reg .e)⟩
  | res6H => exact ⟨_, rfl, .res 6 (.reg .h)⟩
  | res6L => exact ⟨_, rfl, .res 6 (.reg .l)⟩
  | res6AtHl => exact ⟨_, rfl, .res 6 .atHl⟩
  | res6A => exact ⟨_, rfl, .res 6 (.reg .a)⟩
  | res7B => exact ⟨_, rfl, .res 7 (.reg .b)⟩
  | res7C => exact ⟨_, rfl, .res 7 (.reg .c)⟩
  | res7D => exact ⟨_, rfl, .res 7 (.reg .d)⟩
  | res7E => exact ⟨_, rfl, .res 7 (.reg .e)⟩
  | res7H => exact ⟨_, rfl, .res 7 (.reg .h)⟩
  | res7L => exact ⟨_, rfl, .res 7 (.reg .l)⟩
  | res7AtHl => exact ⟨_, rfl, .res 7 .atHl⟩
  | res7A => exact ⟨_, rfl, .res 7 (.reg .a)⟩
  | set0B => exact ⟨_, rfl, .set 0 (.reg .b)⟩
  | set0C => exact ⟨_, rfl, .set 0 (.reg .c)⟩
  | set0D => exact ⟨_, rfl, .set 0 (.reg .d)⟩
  | set0E => exact ⟨_, rfl, .set 0 (.reg .e)⟩
  | set0H => exact ⟨_, rfl, .set 0 (.reg .h)⟩
  | set0L => exact ⟨_, rfl, .set 0 (.reg .l)⟩
  | set0AtHl => exact ⟨_, rfl, .set 0 .atHl⟩
  | set0A => exact ⟨_, rfl, .set 0 (.reg .a)⟩
  | set1B => exact ⟨_, rfl, .set 1 (.reg .b)⟩
  | set1C => exact ⟨_, rfl, .set 1 (.reg .c)⟩
  | set1D => exact ⟨_, rfl, .set 1 (.reg .d)⟩
  | set1E => exact ⟨_, rfl, .set 1 (.reg .e)⟩
  | set1H => exact ⟨_, rfl, .set 1 (.reg .h)⟩
  | set1L => exact ⟨_, rfl, .set 1 (.reg .l)⟩
  | set1AtHl => exact ⟨_, rfl, .set 1 .atHl⟩
  | set1A => exact ⟨_, rfl, .set 1 (.reg .a)⟩
  | set2B => exact ⟨_, rfl, .set 2 (.reg .b)⟩
  | set2C => exact ⟨_, rfl, .set 2 (.reg .c)⟩
  | set2D => exact ⟨_, rfl, .set 2 (.reg .d)⟩
  | set2E => exact ⟨_, rfl, .set 2 (.reg .e)⟩
  | set2H => exact ⟨_, rfl, .set 2 (.reg .h)⟩
  | set2L => exact ⟨_, rfl, .set 2 (.reg .l)⟩
  | set2AtHl => exact ⟨_, rfl, .set 2 .atHl⟩
  | set2A => exact ⟨_, rfl, .set 2 (.reg .a)⟩
  | set3B => exact ⟨_, rfl, .set 3 (.reg .b)⟩
  | set3C => exact ⟨_, rfl, .set 3 (.reg .c)⟩
  | set3D => exact ⟨_, rfl, .set 3 (.reg .d)⟩
  | set3E => exact ⟨_, rfl, .set 3 (.reg .e)⟩
  | set3H => exact ⟨_, rfl, .set 3 (.reg .h)⟩
  | set3L => exact ⟨_, rfl, .set 3 (.reg .l)⟩
  | set3AtHl => exact ⟨_, rfl, .set 3 .atHl⟩
  | set3A => exact ⟨_, rfl, .set 3 (.reg .a)⟩
  | set4B => exact ⟨_, rfl, .set 4 (.reg .b)⟩
  | set4C => exact ⟨_, rfl, .set 4 (.reg .c)⟩
  | set4D => exact ⟨_, rfl, .set 4 (.reg .d)⟩
  | set4E => exact ⟨_, rfl, .set 4 (.reg .e)⟩
  | set4H => exact ⟨_, rfl, .set 4 (.reg .h)⟩
  | set4L => exact ⟨_, rfl, .set 4 (.reg .l)⟩
  | set4AtHl => exact ⟨_, rfl, .set 4 .atHl⟩
  | set4A => exact ⟨_, rfl, .set 4 (.reg .a)⟩
  | set5B => exact ⟨_, rfl, .set 5 (.reg .b)⟩
  | set5C => exact ⟨_, rfl, .set 5 (.reg .c)⟩
  | set5D => exact ⟨_, rfl, .set 5 (.reg .d)⟩
  | set5E => exact ⟨_, rfl, .set 5 (.reg .e)⟩
  | set5H => exact ⟨_, rfl, .set 5 (.reg .h)⟩
  | set5L => exact ⟨_, rfl, .set 5 (.reg .l)⟩
  | set5AtHl => exact ⟨_, rfl, .set 5 .atHl⟩
  | set5A => exact ⟨_, rfl, .set 5 (.reg .a)⟩
  | set6B => exact ⟨_, rfl, .set 6 (.reg .b)⟩
  | set6C => exact ⟨_, rfl, .set 6 (.reg .c)⟩
  | set6D => exact ⟨_, rfl, .set 6 (.reg .d)⟩
  | set6E => exact ⟨_, rfl, .set 6 (.reg .e)⟩
  | set6H => exact ⟨_, rfl, .set 6 (.reg .h)⟩
  | set6L => exact ⟨_, rfl, .set 6 (.reg .l)⟩
  | set6AtHl => exact ⟨_, rfl, .set 6 .atHl⟩
  | set6A => exact ⟨_, rfl, .set 6 (.reg .a)⟩
  | set7B => exact ⟨_, rfl, .set 7 (.reg .b)⟩
  | set7C => exact ⟨_, rfl, .set 7 (.reg .c)⟩
  | set7D => exact ⟨_, rfl, .set 7 (.reg .d)⟩
  | set7E => exact ⟨_, rfl, .set 7 (.reg .e)⟩
  | set7H => exact ⟨_, rfl, .set 7 (.reg .h)⟩
  | set7L => exact ⟨_, rfl, .set 7 (.reg .l)⟩
  | set7AtHl => exact ⟨_, rfl, .set 7 .atHl⟩
  | set7A => exact ⟨_, rfl, .set 7 (.reg .a)⟩
  | prefixCb => exact ⟨_, rfl, .prefixCb⟩
  | unimplementedD3 => exact ⟨_, rfl, .unimplemented (0xD3, .unimplementedD3) (by simp [unimplementedRows])⟩
  | unimplementedDB => exact ⟨_, rfl, .unimplemented (0xDB, .unimplementedDB) (by simp [unimplementedRows])⟩
  | unimplementedDD => exact ⟨_, rfl, .unimplemented (0xDD, .unimplementedDD) (by simp [unimplementedRows])⟩
  | unimplementedE3 => exact ⟨_, rfl, .unimplemented (0xE3, .unimplementedE3) (by simp [unimplementedRows])⟩
  | unimplementedE4 => exact ⟨_, rfl, .unimplemented (0xE4, .unimplementedE4) (by simp [unimplementedRows])⟩
  | unimplementedEB => exact ⟨_, rfl, .unimplemented (0xEB, .unimplementedEB) (by simp [unimplementedRows])⟩
  | unimplementedEC => exact ⟨_, rfl, .unimplemented (0xEC, .unimplementedEC) (by simp [unimplementedRows])⟩
  | unimplementedED => exact ⟨_, rfl, .unimplemented (0xED, .unimplementedED) (by simp [unimplementedRows])⟩
  | unimplementedF4 => exact ⟨_, rfl, .unimplemented (0xF4, .unimplementedF4) (by simp [unimplementedRows])⟩
  | unimplementedFC => exact ⟨_, rfl, .unimplemented (0xFC, .unimplementedFC) (by simp [unimplementedRows])⟩
  | unimplementedFD => exact ⟨_, rfl, .unimplemented (0xFD, .unimplementedFD) (by simp [unimplementedRows])⟩

/-- The inversion of `exec`: a next state it answers is the one of the instruction's family. -/
theorem runs_of_exec {i : Instr} {s t : State} (h : exec i s = .next t) : Runs s i t := by
  obtain ⟨u, hu, hr⟩ := exec_runs i s
  rw [hu] at h
  cases h
  exact hr

end Sys2Proof.Machine
end

