-- ==== Sys2Proof/Tests/Slice0.lean ====
section
/-! SUPPORT. Tests. Decoding: both opcode maps of spec/30_encoding.md (R88, R90), every slot, and words written
out bit by bit. Execution: one step each, on vectors of spec/95_test_vectors.md section 2, named by family and
number. Witnesses: for each statement with hypotheses, a state and operands that meet them. -/

namespace Sys2Proof.Tests

open Sys2Proof.Machine

/-! ### Helpers -/

/-- The four flags from bits. -/
def fl (z n h c : Nat) : Flags := { z := z == 1, n := n == 1, h := h == 1, c := c == 1 }

/-- The vectors' usual start: PC = 0x0100, every other value 0. -/
def base : State := { State.reset with pc := 0x0100 }

/-- The build with the LR35902's flag rules. -/
def sm83 : Config := { flagProfile := .sm83, extraUnimplemented := [] }

/-- The bytes stored from `k` on. -/
def place (bytes : List Byte) (k : Word) (s : State) : State :=
  match bytes with
  | [] => s
  | v :: rest => place rest (k + 1) (s.store k v)

/-- The bytes stand at PC, one step is taken, and its next state passes the check. -/
def steps (bytes : List Byte) (s : State) (post : State → Bool) : Bool :=
  match step (place bytes s.pc s) with
  | .next t => post t
  | .fault _ => false
  | .refused _ => false

/-- The instruction the bytes decode to. -/
def decodes (bytes : List Byte) : Instr :=
  match decode bytes with
  | .ok d => d.instr
  | .rejected _ => .prefixCb

/-- A row of the primary map, 16 opcodes from `first` on, each before the bytes 0x34 0x12. -/
def rowOf (first : Nat) : List Instr :=
  (List.range 16).map fun k => decodes [BitVec.ofNat 8 (first + k), 0x34, 0x12]

/-- A row of the CB map, 16 second bytes from `first` on. -/
def cbRowOf (first : Nat) : List Instr :=
  (List.range 16).map fun k => decodes [0xCB, BitVec.ofNat 8 (first + k)]

/-! ### Well-formedness -/

/-- R86: the marker of slot 0xCB is no instruction; it is the one term refused. -/
theorem test_wellFormed_refuses_marker : ¬Instr.prefixCb.WellFormed ∧ Instr.ldBB.WellFormed := by
  decide

/-! ### Decoding: words written out bit by bit -/

/-- R102 `01 yyy zzz`, y = 1 (C), z = 2 (D). -/
theorem test_word_ld : decodes [0b01001010#8] = .ldCD := by decide

/-- R119 `00 pp 0001 lo hi`, p = 3 (SP). -/
theorem test_word_ld_sp : decodes [0b00110001#8, 0b11111110#8, 0b11111111#8] = .ldSpD16 0xFFFE := by
  decide

/-- R130 `10 kkk zzz`, k = 3 (SBC), z = 6 ((HL)). -/
theorem test_word_sbc : decodes [0b10011110#8] = .sbcAAtHl := by decide

/-- R130 `11 kkk 110 n`, k = 7 (CP). -/
theorem test_word_cp : decodes [0b11111110#8, 0b01000000#8] = .cpAD8 0x40 := by decide

/-- R160 `00 pp 1001`, p = 1 (DE). -/
theorem test_word_add_hl : decodes [0b00011001#8] = .addHlDe := by decide

/-- R182 `11 pp 0101`, p = 3 (AF). -/
theorem test_word_push : decodes [0b11110101#8] = .pushAf := by decide

/-- R204 `01 bbb zzz` behind 0xCB, b = 7, z = 4 (H). -/
theorem test_word_bit : decodes [0b11001011#8, 0b01111100#8] = .bit7H := by decide

/-- R225 `001 cc 000 e`, cc = 2 (NC). -/
theorem test_word_jr : decodes [0b00110000#8, 0b11111011#8] = .jrNcE8 0xFB := by decide

/-- R231 `11 yyy 111`, y = 5. -/
theorem test_word_rst : decodes [0b11101111#8] = .rst28 := by decide

/-- R243: the slot of `LD (HL),(HL)`, `01 110 110`. -/
theorem test_word_halt : decodes [0b01110110#8] = .halt := by decide

/-- R89: 0xD3 holds no descriptor. -/
theorem test_word_hole : decodes [0b11010011#8] = .unimplementedD3 := by decide

/-- A first byte whose operand is missing is refused by name. -/
theorem test_decode_short :
    decode [] = .rejected .noByte ∧ decode [0x06] = .rejected (.truncated 0x06) := by decide

/-- The table's numbering of an FCB row (log entry 7) and of an F3 row, its operand zero. -/
theorem test_table_words : decodeTableWord 16 0xCB37 = some .swapA ∧
    decodeTableWord 8 0xC3 = some (.jpA16 0x0000) := by decide

/-! ### Decoding: the maps of R88 and R90, each immediate 0x34 or 0x1234; slot 0xCB reads CB 34 -/

theorem test_decode_row_0 : rowOf 0x00 =
    [.nop, .ldBcD16 0x1234, .ldAtBcA, .incBc, .incB, .decB, .ldBD8 0x34, .rlca, .ldAtA16Sp 0x1234,
     .addHlBc, .ldAAtBc, .decBc, .incC, .decC, .ldCD8 0x34, .rrca] := by decide

theorem test_decode_row_1 : rowOf 0x10 =
    [.stop 0x34, .ldDeD16 0x1234, .ldAtDeA, .incDe, .incD, .decD, .ldDD8 0x34, .rla, .jrE8 0x34,
     .addHlDe, .ldAAtDe, .decDe, .incE, .decE, .ldED8 0x34, .rra] := by decide

theorem test_decode_row_2 : rowOf 0x20 =
    [.jrNzE8 0x34, .ldHlD16 0x1234, .ldAtHlIncA, .incHl, .incH, .decH, .ldHD8 0x34, .daa,
     .jrZE8 0x34, .addHlHl, .ldAAtHlInc, .decHl, .incL, .decL, .ldLD8 0x34, .cpl] := by decide

theorem test_decode_row_3 : rowOf 0x30 =
    [.jrNcE8 0x34, .ldSpD16 0x1234, .ldAtHlDecA, .incSp, .incAtHl, .decAtHl, .ldAtHlD8 0x34, .scf,
     .jrCE8 0x34, .addHlSp, .ldAAtHlDec, .decSp, .incA, .decA, .ldAD8 0x34, .ccf] := by decide

theorem test_decode_row_4 : rowOf 0x40 =
    [.ldBB, .ldBC, .ldBD, .ldBE, .ldBH, .ldBL, .ldBAtHl, .ldBA, .ldCB, .ldCC, .ldCD, .ldCE, .ldCH,
     .ldCL, .ldCAtHl, .ldCA] := by decide

theorem test_decode_row_5 : rowOf 0x50 =
    [.ldDB, .ldDC, .ldDD, .ldDE, .ldDH, .ldDL, .ldDAtHl, .ldDA, .ldEB, .ldEC, .ldED, .ldEE, .ldEH,
     .ldEL, .ldEAtHl, .ldEA] := by decide

theorem test_decode_row_6 : rowOf 0x60 =
    [.ldHB, .ldHC, .ldHD, .ldHE, .ldHH, .ldHL, .ldHAtHl, .ldHA, .ldLB, .ldLC, .ldLD, .ldLE, .ldLH,
     .ldLL, .ldLAtHl, .ldLA] := by decide

theorem test_decode_row_7 : rowOf 0x70 =
    [.ldAtHlB, .ldAtHlC, .ldAtHlD, .ldAtHlE, .ldAtHlH, .ldAtHlL, .halt, .ldAtHlA, .ldAB, .ldAC,
     .ldAD, .ldAE, .ldAH, .ldAL, .ldAAtHl, .ldAA] := by decide

theorem test_decode_row_8 : rowOf 0x80 =
    [.addAB, .addAC, .addAD, .addAE, .addAH, .addAL, .addAAtHl, .addAA, .adcAB, .adcAC, .adcAD,
     .adcAE, .adcAH, .adcAL, .adcAAtHl, .adcAA] := by decide

theorem test_decode_row_9 : rowOf 0x90 =
    [.subAB, .subAC, .subAD, .subAE, .subAH, .subAL, .subAAtHl, .subAA, .sbcAB, .sbcAC, .sbcAD,
     .sbcAE, .sbcAH, .sbcAL, .sbcAAtHl, .sbcAA] := by decide

theorem test_decode_row_A : rowOf 0xA0 =
    [.andAB, .andAC, .andAD, .andAE, .andAH, .andAL, .andAAtHl, .andAA, .xorAB, .xorAC, .xorAD,
     .xorAE, .xorAH, .xorAL, .xorAAtHl, .xorAA] := by decide

theorem test_decode_row_B : rowOf 0xB0 =
    [.orAB, .orAC, .orAD, .orAE, .orAH, .orAL, .orAAtHl, .orAA, .cpAB, .cpAC, .cpAD, .cpAE, .cpAH,
     .cpAL, .cpAAtHl, .cpAA] := by decide

theorem test_decode_row_C : rowOf 0xC0 =
    [.retNz, .popBc, .jpNzA16 0x1234, .jpA16 0x1234, .callNzA16 0x1234, .pushBc, .addAD8 0x34,
     .rst00, .retZ, .ret, .jpZA16 0x1234, .swapH, .callZA16 0x1234, .callA16 0x1234, .adcAD8 0x34,
     .rst08] := by decide

theorem test_decode_row_D : rowOf 0xD0 =
    [.retNc, .popDe, .jpNcA16 0x1234, .unimplementedD3, .callNcA16 0x1234, .pushDe, .subAD8 0x34,
     .rst10, .retC, .reti, .jpCA16 0x1234, .unimplementedDB, .callCA16 0x1234, .unimplementedDD,
     .sbcAD8 0x34, .rst18] := by decide

theorem test_decode_row_E : rowOf 0xE0 =
    [.ldhAtA8A 0x34, .popHl, .ldAtCA, .unimplementedE3, .unimplementedE4, .pushHl, .andAD8 0x34,
     .rst20, .addSpE8 0x34, .jpHl, .ldAtA16A 0x1234, .unimplementedEB, .unimplementedEC,
     .unimplementedED, .xorAD8 0x34, .rst28] := by decide

theorem test_decode_row_F : rowOf 0xF0 =
    [.ldhAAtA8 0x34, .popAf, .ldAAtC, .di, .unimplementedF4, .pushAf, .orAD8 0x34, .rst30,
     .ldHlSpE8 0x34, .ldSpHl, .ldAAtA16 0x1234, .ei, .unimplementedFC, .unimplementedFD,
     .cpAD8 0x34, .rst38] := by decide

theorem test_decode_cb_row_0 : cbRowOf 0x00 =
    [.rlcB, .rlcC, .rlcD, .rlcE, .rlcH, .rlcL, .rlcAtHl, .rlcA, .rrcB, .rrcC, .rrcD, .rrcE, .rrcH,
     .rrcL, .rrcAtHl, .rrcA] := by decide

theorem test_decode_cb_row_1 : cbRowOf 0x10 =
    [.rlB, .rlC, .rlD, .rlE, .rlH, .rlL, .rlAtHl, .rlA, .rrB, .rrC, .rrD, .rrE, .rrH, .rrL,
     .rrAtHl, .rrA] := by decide

theorem test_decode_cb_row_2 : cbRowOf 0x20 =
    [.slaB, .slaC, .slaD, .slaE, .slaH, .slaL, .slaAtHl, .slaA, .sraB, .sraC, .sraD, .sraE, .sraH,
     .sraL, .sraAtHl, .sraA] := by decide

theorem test_decode_cb_row_3 : cbRowOf 0x30 =
    [.swapB, .swapC, .swapD, .swapE, .swapH, .swapL, .swapAtHl, .swapA, .srlB, .srlC, .srlD,
     .srlE, .srlH, .srlL, .srlAtHl, .srlA] := by decide

theorem test_decode_cb_row_4 : cbRowOf 0x40 =
    [.bit0B, .bit0C, .bit0D, .bit0E, .bit0H, .bit0L, .bit0AtHl, .bit0A, .bit1B, .bit1C, .bit1D,
     .bit1E, .bit1H, .bit1L, .bit1AtHl, .bit1A] := by decide

theorem test_decode_cb_row_5 : cbRowOf 0x50 =
    [.bit2B, .bit2C, .bit2D, .bit2E, .bit2H, .bit2L, .bit2AtHl, .bit2A, .bit3B, .bit3C, .bit3D,
     .bit3E, .bit3H, .bit3L, .bit3AtHl, .bit3A] := by decide

theorem test_decode_cb_row_6 : cbRowOf 0x60 =
    [.bit4B, .bit4C, .bit4D, .bit4E, .bit4H, .bit4L, .bit4AtHl, .bit4A, .bit5B, .bit5C, .bit5D,
     .bit5E, .bit5H, .bit5L, .bit5AtHl, .bit5A] := by decide

theorem test_decode_cb_row_7 : cbRowOf 0x70 =
    [.bit6B, .bit6C, .bit6D, .bit6E, .bit6H, .bit6L, .bit6AtHl, .bit6A, .bit7B, .bit7C, .bit7D,
     .bit7E, .bit7H, .bit7L, .bit7AtHl, .bit7A] := by decide

theorem test_decode_cb_row_8 : cbRowOf 0x80 =
    [.res0B, .res0C, .res0D, .res0E, .res0H, .res0L, .res0AtHl, .res0A, .res1B, .res1C, .res1D,
     .res1E, .res1H, .res1L, .res1AtHl, .res1A] := by decide

theorem test_decode_cb_row_9 : cbRowOf 0x90 =
    [.res2B, .res2C, .res2D, .res2E, .res2H, .res2L, .res2AtHl, .res2A, .res3B, .res3C, .res3D,
     .res3E, .res3H, .res3L, .res3AtHl, .res3A] := by decide

theorem test_decode_cb_row_A : cbRowOf 0xA0 =
    [.res4B, .res4C, .res4D, .res4E, .res4H, .res4L, .res4AtHl, .res4A, .res5B, .res5C, .res5D,
     .res5E, .res5H, .res5L, .res5AtHl, .res5A] := by decide

theorem test_decode_cb_row_B : cbRowOf 0xB0 =
    [.res6B, .res6C, .res6D, .res6E, .res6H, .res6L, .res6AtHl, .res6A, .res7B, .res7C, .res7D,
     .res7E, .res7H, .res7L, .res7AtHl, .res7A] := by decide

theorem test_decode_cb_row_C : cbRowOf 0xC0 =
    [.set0B, .set0C, .set0D, .set0E, .set0H, .set0L, .set0AtHl, .set0A, .set1B, .set1C, .set1D,
     .set1E, .set1H, .set1L, .set1AtHl, .set1A] := by decide

theorem test_decode_cb_row_D : cbRowOf 0xD0 =
    [.set2B, .set2C, .set2D, .set2E, .set2H, .set2L, .set2AtHl, .set2A, .set3B, .set3C, .set3D,
     .set3E, .set3H, .set3L, .set3AtHl, .set3A] := by decide

theorem test_decode_cb_row_E : cbRowOf 0xE0 =
    [.set4B, .set4C, .set4D, .set4E, .set4H, .set4L, .set4AtHl, .set4A, .set5B, .set5C, .set5D,
     .set5E, .set5H, .set5L, .set5AtHl, .set5A] := by decide

theorem test_decode_cb_row_F : cbRowOf 0xF0 =
    [.set6B, .set6C, .set6D, .set6E, .set6H, .set6L, .set6AtHl, .set6A, .set7B, .set7C, .set7D,
     .set7E, .set7H, .set7L, .set7AtHl, .set7A] := by decide

/-! ### One step on the vectors of spec/95_test_vectors.md -/

/-- V-LOAD 1: `LD B,C`. -/
theorem test_load_1 : steps [0x41]
    { base with c := 0x5A }
    (fun t => t.b = 0x5A ∧ t.pc = 0x0101 ∧ t.flags = fl 0 0 0 0) := by decide

/-- V-LOAD 3: `LD D,d8`. -/
theorem test_load_3 : steps [0x16, 0xFF]
    base
    (fun t => t.d = 0xFF ∧ t.pc = 0x0102 ∧ t.flags = fl 0 0 0 0) := by decide

/-- V-LOAD 4: `LD H,(HL)`. -/
theorem test_load_4 : steps [0x66]
    { base with h := 0xC0, l := 0x10, mem := [(0xC010, 0x77)] }
    (fun t => t.h = 0x77 ∧ t.pc = 0x0101 ∧ t.flags = fl 0 0 0 0) := by decide

/-- V-LOAD 6: `LD (HL),H`. -/
theorem test_load_6 : steps [0x74]
    { base with h := 0xC0, l := 0x12 }
    (fun t => t.pc = 0x0101 ∧ t.load 0xC012 = 0xC0 ∧ t.flags = fl 0 0 0 0) := by decide

/-- V-LOAD 8: `LD (HL),d8`. -/
theorem test_load_8 : steps [0x36, 0xAB]
    { base with h := 0xFF, l := 0xFF }
    (fun t => t.pc = 0x0102 ∧ t.load 0xFFFF = 0xAB ∧ t.flags = fl 0 0 0 0) := by decide

/-- V-LOAD 9: `LD A,(BC)`. -/
theorem test_load_9 : steps [0x0A]
    { base with b := 0xC1, mem := [(0xC100, 0x42)] }
    (fun t => t.a = 0x42 ∧ t.pc = 0x0101 ∧ t.flags = fl 0 0 0 0) := by decide

/-- V-LOAD 10: `LD (DE),A`. -/
theorem test_load_10 : steps [0x12]
    { base with a := 0x5C, d := 0xC2 }
    (fun t => t.pc = 0x0101 ∧ t.load 0xC200 = 0x5C ∧ t.flags = fl 0 0 0 0) := by decide

/-- V-LOAD 11: `LD A,(a16)`. -/
theorem test_load_11 : steps [0xFA, 0x34, 0x12]
    { base with mem := [(0x1234, 0x9E)] }
    (fun t => t.a = 0x9E ∧ t.pc = 0x0103 ∧ t.flags = fl 0 0 0 0) := by decide

/-- V-LOAD 13: `LDH A,(a8)`. -/
theorem test_load_13 : steps [0xF0, 0x80]
    { base with mem := [(0xFF80, 0x3C)] }
    (fun t => t.a = 0x3C ∧ t.pc = 0x0102 ∧ t.flags = fl 0 0 0 0) := by decide

/-- V-LOAD 15: `LD A,(C)`. -/
theorem test_load_15 : steps [0xF2]
    { base with c := 0x44, mem := [(0xFF44, 0x90)] }
    (fun t => t.a = 0x90 ∧ t.pc = 0x0101 ∧ t.flags = fl 0 0 0 0) := by decide

/-- V-LOAD 17: `LD (HL+),A`. -/
theorem test_load_17 : steps [0x22]
    { base with a := 0x11, h := 0xFF, l := 0xFF }
    (fun t => t.h = 0x00 ∧ t.l = 0x00 ∧ t.pc = 0x0101 ∧ t.load 0xFFFF = 0x11 ∧ t.flags = fl 0 0 0 0) := by decide

/-- V-LOAD 20: `LD A,(HL-)`. -/
theorem test_load_20 : steps [0x3A]
    { base with mem := [(0x0000, 0x5D)] }
    (fun t => t.a = 0x5D ∧ t.h = 0xFF ∧ t.l = 0xFF ∧ t.pc = 0x0101 ∧ t.flags = fl 0 0 0 0) := by decide

/-- V-LOAD 21: `LD BC,d16`. -/
theorem test_load_21 : steps [0x01, 0x34, 0x12]
    base
    (fun t => t.b = 0x12 ∧ t.c = 0x34 ∧ t.pc = 0x0103 ∧ t.flags = fl 0 0 0 0) := by decide

/-- V-LOAD 24: `LD (a16),SP`. -/
theorem test_load_24 : steps [0x08, 0xFF, 0xFF]
    { base with sp := 0x1234 }
    (fun t => t.pc = 0x0103 ∧ t.load 0x0000 = 0x12 ∧ t.load 0xFFFF = 0x34 ∧ t.flags = fl 0 0 0 0) := by decide

/-- V-LOAD 25: `LD SP,HL`. -/
theorem test_load_25 : steps [0xF9]
    { base with h := 0xD0, sp := 0xFFFE }
    (fun t => t.sp = 0xD000 ∧ t.pc = 0x0101 ∧ t.flags = fl 0 0 0 0) := by decide

/-- V-ALU8 1: `ADD A,B`. -/
theorem test_alu8_1 : steps [0x80]
    { base with a := 0x18, b := 0x18 }
    (fun t => t.a = 0x30 ∧ t.pc = 0x0101 ∧ t.flags = fl 0 0 1 0) := by decide

/-- V-ALU8 5: `ADD A,(HL)`. -/
theorem test_alu8_5 : steps [0x86]
    { base with a := 0x3A, h := 0xC0, mem := [(0xC000, 0xC6)] }
    (fun t => t.a = 0x00 ∧ t.pc = 0x0101 ∧ t.flags = fl 1 0 1 1) := by decide

/-- V-ALU8 7: `ADC A,B`. -/
theorem test_alu8_7 : steps [0x88]
    { base with a := 0xFF, b := 0xFF, flags := fl 0 0 0 1 }
    (fun t => t.pc = 0x0101 ∧ t.flags = fl 0 0 1 1) := by decide

/-- V-ALU8 9: `ADC A,B`. -/
theorem test_alu8_9 : steps [0x88]
    { base with a := 0xFF, flags := fl 0 0 0 1 }
    (fun t => t.a = 0x00 ∧ t.pc = 0x0101 ∧ t.flags = fl 1 0 1 1) := by decide

/-- V-ALU8 14: `SUB A,B`. -/
theorem test_alu8_14 : steps [0x90]
    { base with b := 0x01 }
    (fun t => t.a = 0xFF ∧ t.pc = 0x0101 ∧ t.flags = fl 0 1 1 1) := by decide

/-- V-ALU8 17: `SBC A,B`. -/
theorem test_alu8_17 : steps [0x98]
    { base with a := 0x10, b := 0x0F, flags := fl 0 0 0 1 }
    (fun t => t.a = 0x00 ∧ t.pc = 0x0101 ∧ t.flags = fl 1 1 1 0) := by decide

/-- V-ALU8 20: `SBC A,d8`. -/
theorem test_alu8_20 : steps [0xDE, 0xFF]
    { base with flags := fl 0 0 0 1 }
    (fun t => t.pc = 0x0102 ∧ t.flags = fl 1 1 1 1) := by decide

/-- V-ALU8 21: `AND A,B`. -/
theorem test_alu8_21 : steps [0xA0]
    { base with a := 0x5A, b := 0x3F, flags := fl 0 1 0 1 }
    (fun t => t.a = 0x1A ∧ t.pc = 0x0101 ∧ t.flags = fl 0 0 1 0) := by decide

/-- V-ALU8 24: `XOR A,(HL)`. -/
theorem test_alu8_24 : steps [0xAE]
    { base with a := 0xF0, h := 0xC0, mem := [(0xC000, 0x0F)] }
    (fun t => t.a = 0xFF ∧ t.pc = 0x0101 ∧ t.flags = fl 0 0 0 0) := by decide

/-- V-ALU8 26: `OR A,d8`. -/
theorem test_alu8_26 : steps [0xF6, 0x81]
    { base with a := 0x40 }
    (fun t => t.a = 0xC1 ∧ t.pc = 0x0102 ∧ t.flags = fl 0 0 0 0) := by decide

/-- V-ALU8 29: `CP A,d8`. -/
theorem test_alu8_29 : steps [0xFE, 0x40]
    { base with a := 0x3C }
    (fun t => t.pc = 0x0102 ∧ t.flags = fl 0 1 0 1) := by decide

/-- V-INCDEC 1: `INC B`. -/
theorem test_incdec_1 : steps [0x04]
    { base with b := 0xFF, flags := fl 0 1 0 1 }
    (fun t => t.b = 0x00 ∧ t.pc = 0x0101 ∧ t.flags = fl 1 1 1 1) := by decide

/-- V-INCDEC 1 (SM83): `INC B`. -/
theorem test_incdec_1_sm83 : steps [0x04]
    { base with b := 0xFF, flags := fl 0 1 0 1, config := sm83 }
    (fun t => t.b = 0x00 ∧ t.pc = 0x0101 ∧ t.flags = fl 1 0 1 1) := by decide

/-- V-INCDEC 4: `INC (HL)`. -/
theorem test_incdec_4 : steps [0x34]
    { base with h := 0xC0, flags := fl 0 1 0 0, mem := [(0xC000, 0x4F)] }
    (fun t => t.pc = 0x0101 ∧ t.load 0xC000 = 0x50 ∧ t.flags = fl 0 1 1 0) := by decide

/-- V-INCDEC 5: `DEC B`. -/
theorem test_incdec_5 : steps [0x05]
    { base with flags := fl 0 0 0 1 }
    (fun t => t.b = 0xFF ∧ t.pc = 0x0101 ∧ t.flags = fl 0 1 1 1) := by decide

/-- V-INCDEC 8: `DEC (HL)`. -/
theorem test_incdec_8 : steps [0x35]
    { base with h := 0xC0 }
    (fun t => t.pc = 0x0101 ∧ t.load 0xC000 = 0xFF ∧ t.flags = fl 0 1 1 0) := by decide

/-- V-ARITH16 1: `ADD HL,BC`. -/
theorem test_arith16_1 : steps [0x09]
    { base with h := 0x8A, l := 0x23, b := 0x06, c := 0x05, flags := fl 1 1 0 0 }
    (fun t => t.h = 0x90 ∧ t.l = 0x28 ∧ t.pc = 0x0101 ∧ t.flags = fl 1 0 1 0) := by decide

/-- V-ARITH16 3: `ADD HL,HL`. -/
theorem test_arith16_3 : steps [0x29]
    { base with h := 0x80 }
    (fun t => t.h = 0x00 ∧ t.pc = 0x0101 ∧ t.flags = fl 0 0 0 1) := by decide

/-- V-ARITH16 6: `INC SP`. -/
theorem test_arith16_6 : steps [0x33]
    { base with sp := 0xFFFF, flags := fl 1 1 1 1 }
    (fun t => t.sp = 0x0000 ∧ t.pc = 0x0101 ∧ t.flags = fl 1 1 1 1) := by decide

/-- V-ARITH16 7: `DEC DE`. -/
theorem test_arith16_7 : steps [0x1B]
    base
    (fun t => t.d = 0xFF ∧ t.e = 0xFF ∧ t.pc = 0x0101 ∧ t.flags = fl 0 0 0 0) := by decide

/-- V-SPE 3: `ADD SP,e8`. -/
theorem test_spe_3 : steps [0xE8, 0x01]
    { base with sp := 0x0FFF }
    (fun t => t.sp = 0x1000 ∧ t.pc = 0x0102 ∧ t.flags = fl 0 0 1 0) := by decide

/-- V-SPE 3 (SM83): `ADD SP,e8`. -/
theorem test_spe_3_sm83 : steps [0xE8, 0x01]
    { base with sp := 0x0FFF, config := sm83 }
    (fun t => t.sp = 0x1000 ∧ t.pc = 0x0102 ∧ t.flags = fl 0 0 1 1) := by decide

/-- V-SPE 7: `LD HL,SP+e8`. -/
theorem test_spe_7 : steps [0xF8, 0xFF]
    { base with sp := 0x2100 }
    (fun t => t.h = 0x20 ∧ t.l = 0xFF ∧ t.pc = 0x0102 ∧ t.flags = fl 0 0 1 1) := by decide

/-- V-SPE 7 (SM83): `LD HL,SP+e8`. -/
theorem test_spe_7_sm83 : steps [0xF8, 0xFF]
    { base with sp := 0x2100, config := sm83 }
    (fun t => t.h = 0x20 ∧ t.l = 0xFF ∧ t.pc = 0x0102 ∧ t.flags = fl 0 0 0 0) := by decide

/-- V-STACK 2: `PUSH DE`. -/
theorem test_stack_2 : steps [0xD5]
    { base with d := 0xAB, e := 0xCD, sp := 0x0001 }
    (fun t => t.sp = 0xFFFF ∧ t.pc = 0x0101 ∧ t.load 0x0000 = 0xAB ∧ t.load 0xFFFF = 0xCD ∧ t.flags = fl 0 0 0 0) := by decide

/-- V-STACK 4: `PUSH AF`. -/
theorem test_stack_4 : steps [0xF5]
    { base with a := 0x12, sp := 0xD000, flags := fl 1 0 0 1 }
    (fun t => t.sp = 0xCFFE ∧ t.pc = 0x0101 ∧ t.load 0xCFFE = 0x90 ∧ t.load 0xCFFF = 0x12 ∧ t.flags = fl 1 0 0 1) := by decide

/-- V-STACK 6: `POP HL`. -/
theorem test_stack_6 : steps [0xE1]
    { base with sp := 0xFFFF, mem := [(0x0000, 0x56), (0xFFFF, 0x78)] }
    (fun t => t.h = 0x56 ∧ t.l = 0x78 ∧ t.sp = 0x0001 ∧ t.pc = 0x0101 ∧ t.flags = fl 0 0 0 0) := by decide

/-- V-STACK 7: `POP AF`. -/
theorem test_stack_7 : steps [0xF1]
    { base with sp := 0xFFFC, mem := [(0xFFFC, 0xFF), (0xFFFD, 0x12)] }
    (fun t => t.a = 0x12 ∧ t.sp = 0xFFFE ∧ t.pc = 0x0101 ∧ t.flags = fl 1 1 1 1) := by decide

/-- V-ROTA 1: `RLCA`. -/
theorem test_rota_1 : steps [0x07]
    { base with a := 0x85, flags := fl 1 1 1 0 }
    (fun t => t.a = 0x0B ∧ t.pc = 0x0101 ∧ t.flags = fl 0 0 0 1) := by decide

/-- V-ROTA 3: `RRCA`. -/
theorem test_rota_3 : steps [0x0F]
    { base with a := 0x3B }
    (fun t => t.a = 0x9D ∧ t.pc = 0x0101 ∧ t.flags = fl 0 0 0 1) := by decide

/-- V-ROTA 5: `RLA`. -/
theorem test_rota_5 : steps [0x17]
    { base with a := 0x80 }
    (fun t => t.a = 0x00 ∧ t.pc = 0x0101 ∧ t.flags = fl 0 0 0 1) := by decide

/-- V-ROTA 7: `RRA`. -/
theorem test_rota_7 : steps [0x1F]
    { base with a := 0x01, flags := fl 1 0 0 0 }
    (fun t => t.a = 0x00 ∧ t.pc = 0x0101 ∧ t.flags = fl 0 0 0 1) := by decide

/-- V-CB 1: `RLC B`. -/
theorem test_cb_1 : steps [0xCB, 0x00]
    { base with b := 0x80 }
    (fun t => t.b = 0x01 ∧ t.pc = 0x0102 ∧ t.flags = fl 0 0 0 1) := by decide

/-- V-CB 3: `RRC C`. -/
theorem test_cb_3 : steps [0xCB, 0x09]
    { base with c := 0x01 }
    (fun t => t.c = 0x80 ∧ t.pc = 0x0102 ∧ t.flags = fl 0 0 0 1) := by decide

/-- V-CB 4: `RL L`. -/
theorem test_cb_4 : steps [0xCB, 0x15]
    { base with l := 0x80 }
    (fun t => t.l = 0x00 ∧ t.pc = 0x0102 ∧ t.flags = fl 1 0 0 1) := by decide

/-- V-CB 7: `RR (HL)`. -/
theorem test_cb_7 : steps [0xCB, 0x1E]
    { base with h := 0xC0, flags := fl 0 0 0 1, mem := [(0xC000, 0x02)] }
    (fun t => t.pc = 0x0102 ∧ t.load 0xC000 = 0x81 ∧ t.flags = fl 0 0 0 0) := by decide

/-- V-CB 9: `SLA D`. -/
theorem test_cb_9 : steps [0xCB, 0x22]
    { base with d := 0x80 }
    (fun t => t.d = 0x00 ∧ t.pc = 0x0102 ∧ t.flags = fl 1 0 0 1) := by decide

/-- V-CB 10: `SRA A`. -/
theorem test_cb_10 : steps [0xCB, 0x2F]
    { base with a := 0x8A, flags := fl 0 0 0 1 }
    (fun t => t.a = 0xC5 ∧ t.pc = 0x0102 ∧ t.flags = fl 0 0 0 0) := by decide

/-- V-CB 14: `SWAP (HL)`. -/
theorem test_cb_14 : steps [0xCB, 0x36]
    { base with h := 0xC0, mem := [(0xC000, 0x12)] }
    (fun t => t.pc = 0x0102 ∧ t.load 0xC000 = 0x21 ∧ t.flags = fl 0 0 0 0) := by decide

/-- V-CB 15: `SRL B`. -/
theorem test_cb_15 : steps [0xCB, 0x38]
    { base with b := 0xFF }
    (fun t => t.b = 0x7F ∧ t.pc = 0x0102 ∧ t.flags = fl 0 0 0 1) := by decide

/-- V-CB 18: `BIT 7,H`. -/
theorem test_cb_18 : steps [0xCB, 0x7C]
    { base with h := 0x7F }
    (fun t => t.pc = 0x0102 ∧ t.flags = fl 1 0 1 0) := by decide

/-- V-CB 19: `BIT 0,(HL)`. -/
theorem test_cb_19 : steps [0xCB, 0x46]
    { base with h := 0xC0, flags := fl 0 0 0 1, mem := [(0xC000, 0xFE)] }
    (fun t => t.pc = 0x0102 ∧ t.flags = fl 1 0 1 1) := by decide

/-- V-CB 20: `RES 0,(HL)`. -/
theorem test_cb_20 : steps [0xCB, 0x86]
    { base with h := 0xC0, flags := fl 1 1 1 1, mem := [(0xC000, 0xFF)] }
    (fun t => t.pc = 0x0102 ∧ t.load 0xC000 = 0xFE ∧ t.flags = fl 1 1 1 1) := by decide

/-- V-CB 23: `SET 7,(HL)`. -/
theorem test_cb_23 : steps [0xCB, 0xFE]
    { base with h := 0xC0, flags := fl 1 0 0 0 }
    (fun t => t.pc = 0x0102 ∧ t.load 0xC000 = 0x80 ∧ t.flags = fl 1 0 0 0) := by decide

/-- V-CTRL 1: `JP a16`. -/
theorem test_ctrl_1 : steps [0xC3, 0x50, 0x01]
    base
    (fun t => t.pc = 0x0150 ∧ t.flags = fl 0 0 0 0) := by decide

/-- V-CTRL 2: `JP Z,a16`. -/
theorem test_ctrl_2 : steps [0xCA, 0x00, 0x20]
    { base with flags := fl 1 0 0 0 }
    (fun t => t.pc = 0x2000 ∧ t.flags = fl 1 0 0 0) := by decide

/-- V-CTRL 3: `JP Z,a16`. -/
theorem test_ctrl_3 : steps [0xCA, 0x00, 0x20]
    base
    (fun t => t.pc = 0x0103 ∧ t.flags = fl 0 0 0 0) := by decide

/-- V-CTRL 6: `JP HL`. -/
theorem test_ctrl_6 : steps [0xE9]
    { base with h := 0x40 }
    (fun t => t.pc = 0x4000 ∧ t.flags = fl 0 0 0 0) := by decide

/-- V-CTRL 10: `JR e8`. -/
theorem test_ctrl_10 : steps [0x18, 0x7F]
    { base with pc := 0xFFF0 }
    (fun t => t.pc = 0x0071 ∧ t.flags = fl 0 0 0 0) := by decide

/-- V-CTRL 12: `JR NZ,e8`. -/
theorem test_ctrl_12 : steps [0x20, 0xFC]
    { base with flags := fl 1 0 0 0, pc := 0x0106 }
    (fun t => t.pc = 0x0108 ∧ t.flags = fl 1 0 0 0) := by decide

/-- V-CTRL 14: `JR C,e8`. -/
theorem test_ctrl_14 : steps [0x38, 0x10]
    { base with flags := fl 0 0 0 1, pc := 0x0200 }
    (fun t => t.pc = 0x0212 ∧ t.flags = fl 0 0 0 1) := by decide

/-- V-CTRL 16: `CALL a16`. -/
theorem test_ctrl_16 : steps [0xCD, 0x00, 0x40]
    { base with sp := 0x0001, pc := 0x1000 }
    (fun t => t.sp = 0xFFFF ∧ t.pc = 0x4000 ∧ t.load 0x0000 = 0x10 ∧ t.load 0xFFFF = 0x03 ∧ t.flags = fl 0 0 0 0) := by decide

/-- V-CTRL 17: `CALL C,a16`. -/
theorem test_ctrl_17 : steps [0xDC, 0x00, 0x30]
    { base with sp := 0xFFFE }
    (fun t => t.pc = 0x0103 ∧ t.flags = fl 0 0 0 0) := by decide

/-- V-CTRL 20: `RET`. -/
theorem test_ctrl_20 : steps [0xC9]
    { base with sp := 0xFFFF, pc := 0x0210, mem := [(0x0000, 0xC9)] }
    (fun t => t.sp = 0x0001 ∧ t.pc = 0xC900 ∧ t.flags = fl 0 0 0 0) := by decide

/-- V-CTRL 21: `RET Z`. -/
theorem test_ctrl_21 : steps [0xC8]
    { base with sp := 0xFFFC, pc := 0x0300, mem := [(0xFFFC, 0x0A), (0xFFFD, 0x02)] }
    (fun t => t.pc = 0x0301 ∧ t.flags = fl 0 0 0 0) := by decide

/-- V-CTRL 22: `RET NC`. -/
theorem test_ctrl_22 : steps [0xD0]
    { base with sp := 0xFFFC, pc := 0x0300, mem := [(0xFFFC, 0x0A), (0xFFFD, 0x02)] }
    (fun t => t.sp = 0xFFFE ∧ t.pc = 0x020A ∧ t.flags = fl 0 0 0 0) := by decide

/-- V-CTRL 23: `RETI`. -/
theorem test_ctrl_23 : steps [0xD9]
    { base with sp := 0xFFFC, pc := 0x0300, mem := [(0xFFFC, 0x34), (0xFFFD, 0x12)] }
    (fun t => t.sp = 0xFFFE ∧ t.pc = 0x1234 ∧ t.ime = true ∧ t.flags = fl 0 0 0 0) := by decide

/-- V-CTRL 24: `RST 0x38`. -/
theorem test_ctrl_24 : steps [0xFF]
    { base with sp := 0xD000, pc := 0x1234 }
    (fun t => t.sp = 0xCFFE ∧ t.pc = 0x0038 ∧ t.load 0xCFFE = 0x35 ∧ t.load 0xCFFF = 0x12 ∧ t.flags = fl 0 0 0 0) := by decide

/-- V-MISC 1: `NOP`. -/
theorem test_misc_1 : steps [0x00]
    { base with flags := fl 1 0 0 1 }
    (fun t => t.pc = 0x0101 ∧ t.flags = fl 1 0 0 1) := by decide

/-- V-MISC 2: `DI`. -/
theorem test_misc_2 : steps [0xF3]
    { base with ime := true }
    (fun t => t.pc = 0x0101 ∧ t.ime = false ∧ t.flags = fl 0 0 0 0) := by decide

/-- V-MISC 3: `EI`. -/
theorem test_misc_3 : steps [0xFB]
    base
    (fun t => t.pc = 0x0101 ∧ t.ime = true ∧ t.flags = fl 0 0 0 0) := by decide

/-- V-MISC 4: `HALT`. -/
theorem test_misc_4 : steps [0x76]
    { base with pc := 0x0108 }
    (fun t => t.pc = 0x0109 ∧ t.halted = true ∧ t.flags = fl 0 0 0 0) := by decide

/-- V-MISC 6: `STOP`. -/
theorem test_misc_6 : steps [0x10, 0x5A]
    { base with pc := 0xFFFF }
    (fun t => t.pc = 0x0001 ∧ t.stopped = true ∧ t.flags = fl 0 0 0 0) := by decide

/-- V-MISC 8: `CCF`. -/
theorem test_misc_8 : steps [0x3F]
    { base with flags := fl 1 1 0 0 }
    (fun t => t.pc = 0x0101 ∧ t.flags = fl 1 0 0 1) := by decide

/-- V-MISC 9: `SCF`. -/
theorem test_misc_9 : steps [0x37]
    { base with flags := fl 0 1 1 0 }
    (fun t => t.pc = 0x0101 ∧ t.flags = fl 0 0 0 1) := by decide

/-- V-MISC 11: `CPL`. -/
theorem test_misc_11 : steps [0x2F]
    { base with flags := fl 1 0 0 1 }
    (fun t => t.a = 0xFF ∧ t.pc = 0x0101 ∧ t.flags = fl 1 1 1 1) := by decide

/-- V-MISC 13: `DAA`. -/
theorem test_misc_13 : steps [0x27]
    { base with a := 0x9A }
    (fun t => t.a = 0x00 ∧ t.pc = 0x0101 ∧ t.flags = fl 1 0 0 1) := by decide

/-- V-MISC 14: `DAA`. -/
theorem test_misc_14 : steps [0x27]
    { base with a := 0x2D, flags := fl 0 1 1 0 }
    (fun t => t.a = 0x27 ∧ t.pc = 0x0101 ∧ t.flags = fl 0 1 0 0) := by decide

/-- V-FAULT 1: `undefined D3`. -/
theorem test_fault_1 : steps [0xD3]
    { base with a := 0x12, flags := fl 1 0 0 0, pc := 0x0300 }
    (fun t => t.pc = 0x0300 ∧ t.fault = some (.unimplementedOpcode [0xD3] 0x0300) ∧ t.flags = fl 1 0 0 0) := by decide

/-! ### The parameter, the refusal, the fetch -/

/-- The build that leaves INC B and SWAP A without a descriptor. -/
def extra : Config :=
  { flagProfile := .doc, extraUnimplemented := [.primary 0x04, .cb 0x37] }

/-- R89, R261, R262: a slot of EXTRA_UNIMPLEMENTED. -/
theorem test_extra_primary : steps [0x04] { base with config := extra }
    (fun t => t.pc = 0x0100 ∧ t.b = 0x00 ∧
      t.fault = some (.unimplementedOpcode [0x04] 0x0100)) := by decide

/-- R261: for a CB slot the record has both bytes. -/
theorem test_extra_cb : steps [0xCB, 0x37] { base with a := 0xF0, config := extra }
    (fun t => t.pc = 0x0100 ∧ t.a = 0xF0 ∧
      t.fault = some (.unimplementedOpcode [0xCB, 0x37] 0x0100)) := by decide

/-- R86: a 0xCB at 0xFFFF takes its second byte from 0x0000. -/
theorem test_marker_wraps : steps [0xCB, 0x37] { base with a := 0xF0, pc := 0xFFFF }
    (fun t => t.a = 0x0F ∧ t.pc = 0x0001) := by decide

/-- R106, R66: the store over its own immediate byte does not change the instruction. -/
theorem test_store_over_itself : steps [0x36, 0x99] { base with h := 0x01, l := 0x00 }
    (fun t => t.load 0x0100 = 0x99 ∧ t.load 0x0101 = 0x99 ∧ t.pc = 0x0102) := by decide

/-- A state that recorded the fault of V-FAULT 1. -/
def faulted : State :=
  { base with a := 0x12, pc := 0x0300, fault := some (.unimplementedOpcode [0xD3] 0x0300) }

/-- V-REFUSE 1: the step of a faulted state reports the record again. -/
theorem test_refuse : step faulted = .fault (.unimplementedOpcode [0xD3] 0x0300) := rfl

/-- The first step after reset runs the word placed for it. -/
theorem test_withFetchWord : step (State.reset.withFetchWord 16 0xCBDF) =
    .next { State.reset.withFetchWord 16 0xCBDF with a := 0x08, pc := 0x0002 } := rfl

/-- R287: the run of P1's last instruction is final after its first step, not later. -/
theorem test_run_ends : runFor 3 (place [0x76, 0x3C] 0x0100 base) =
    .final { place [0x76, 0x3C] 0x0100 base with pc := 0x0101, halted := true } := by decide

/-- R55, R53: a 16-bit store at 0xFFFF wraps, and memory stays in canonical form. -/
theorem test_store16_canonical :
    (State.reset.store16 0xFFFF 0x1234).mem = [(0x0000, 0x12), (0xFFFF, 0x34)] := by decide

/-- Writing what an unlisted byte reads as removes the entry. -/
theorem test_store_removes : ((State.reset.store 0x10 0x05).store 0x10 0x00).mem = [] := by decide

/-! ### Witnesses of the statements' hypotheses -/

theorem witness_LoadAccumulatorAndAdjustHl : ∀ delta ∈ [(1 : Int), -1], ∃ i : Instr,
    (i = .ldAAtHlInc ∧ delta = 1) ∨ (i = .ldAAtHlDec ∧ delta = -1) := by
  intro delta h
  rcases List.mem_pair.mp h with rfl | rfl
  · exact ⟨.ldAAtHlInc, .inl ⟨rfl, rfl⟩⟩
  · exact ⟨.ldAAtHlDec, .inr ⟨rfl, rfl⟩⟩

theorem witness_StoreAccumulatorAndAdjustHl : ∀ delta ∈ [(1 : Int), -1], ∃ i : Instr,
    (i = .ldAtHlIncA ∧ delta = 1) ∨ (i = .ldAtHlDecA ∧ delta = -1) := by
  intro delta h
  rcases List.mem_pair.mp h with rfl | rfl
  · exact ⟨.ldAtHlIncA, .inl ⟨rfl, rfl⟩⟩
  · exact ⟨.ldAtHlDecA, .inr ⟨rfl, rfl⟩⟩

/-- Both profiles, at the operand where Z and H are set. -/
theorem witness_IncrementOperand :
    ({ base with b := 0xFF } : State).config.flagProfile = .doc ∧
    ({ base with b := 0xFF, config := sm83 } : State).config.flagProfile = .sm83 := by decide

/-- Both instructions under both profiles, at SP's upper boundary. -/
theorem witness_SignedAdditionToStackPointer :
    ((Instr.addSpE8 0x01 = .addSpE8 0x01 ∧ Reg16.sp = .sp) ∧
      ({ base with sp := 0xFFFF } : State).config.flagProfile = .doc) ∧
    ((Instr.ldHlSpE8 0x80 = .ldHlSpE8 0x80 ∧ Reg16.hl = .hl) ∧
      ({ base with sp := 0xFFFF, config := sm83 } : State).config.flagProfile = .sm83) := by
  decide

/-- Each clause of `LD rr,d16` by its operand. -/
theorem witness_LoadSixteenBit : ∀ r : Reg16, r = .bc ∨ r = .de ∨ r = .hl ∨ r = .sp := by
  intro r
  cases r <;> decide

/-- Each clause of PUSH and POP by its pair, and the clause of the pairs other than AF. -/
theorem witness_PushPair_PopPair :
    (∀ p : Pair, p = .bc ∨ p = .de ∨ p = .hl ∨ p = .af) ∧ Pair.bc ≠ .af := by
  refine ⟨fun p => ?_, by decide⟩
  cases p <;> decide

/-- Every condition holds of some flags and fails of others: the clauses taken and not taken of the
conditional jumps, calls and returns. -/
theorem witness_ConditionalJumps_Calls_Returns :
    (CondTrue .nz (fl 0 1 1 1) ∧ ¬CondTrue .nz (fl 1 0 0 0)) ∧
    (CondTrue .z (fl 1 0 0 0) ∧ ¬CondTrue .z (fl 0 1 1 1)) ∧
    (CondTrue .nc (fl 1 1 1 0) ∧ ¬CondTrue .nc (fl 0 0 0 1)) ∧
    (CondTrue .c (fl 0 0 0 1) ∧ ¬CondTrue .c (fl 1 1 1 0)) :=
  ⟨⟨rfl, Bool.noConfusion⟩, ⟨rfl, Bool.noConfusion⟩, ⟨rfl, Bool.noConfusion⟩, ⟨rfl, Bool.noConfusion⟩⟩

/-- After an addition and after a subtraction, at the boundary 0x99. -/
theorem witness_DecimalAdjust :
    ({ base with a := 0x9A } : State).flags.n = false ∧
    ({ base with a := 0x99, flags := fl 0 1 1 1 } : State).flags.n = true := by decide

/-- The greatest two BCD bytes. -/
theorem witness_DecimalAdditionIsCorrect : ∃ (x y : Nat) (s : State), x < 100 ∧ y < 100 ∧
    s.a = BitVec.ofNat 8 (x / 10 * 16 + x % 10) ∧ x + y = 198 :=
  ⟨99, 99, { base with a := 0x99 }, by decide⟩

theorem witness_UnimplementedRowsRaise : ∃ row ∈ unimplementedRows, row.2 = .unimplementedFD := by
  decide

/-- A hole, a primary slot and a CB slot of the parameter. -/
theorem witness_StepRaisesPrecisely :
    (∃ d, (place [0xFD] 0x0100 base).fault = none ∧ fetchDecode (place [0xFD] 0x0100 base) = .ok d ∧
      ∃ row ∈ unimplementedRows, d.slot = .primary row.1) ∧
    (∃ d, fetchDecode (place [0xCB, 0x37] 0x0100 { base with config := extra }) = .ok d ∧
      d.slot ∈ extra.extraUnimplemented) :=
  ⟨⟨{ instr := .unimplementedFD, slot := .primary 0xFD, len := 1 }, by decide⟩,
    ⟨{ instr := .swapA, slot := .cb 0x37, len := 2 }, by decide⟩⟩

theorem witness_FaultIsTerminal :
    (∃ record, faulted.fault = some record) ∧
    (∃ t, exec .nop faulted = .next t ∧ faulted.fault ≠ none) :=
  ⟨⟨_, rfl⟩, ⟨_, rfl, by decide⟩⟩

theorem witness_EveryUnfaultedStepCompletes : State.reset.fault = none := by decide

/-- A CB slot with a descriptor, and one the build leaves without. -/
theorem witness_MarkerRunsTheCbTable :
    .cb ((place [0x37] 0x0100 base).load 0x0100) ∉ base.config.extraUnimplemented ∧
    .cb ((place [0x37] 0x0100 base).load 0x0100) ∈ extra.extraUnimplemented := by decide

theorem witness_StepAtMarkerIsItsRow :
    (place [0xCB, 0x37] 0xFFFF base).fault = none ∧
    (place [0xCB, 0x37] 0xFFFF { base with pc := 0xFFFF }).load 0xFFFF = 0xCB := by decide

/-- A three-byte instruction across the end of the address space. -/
theorem witness_StepRunsDecodedInstruction : ∃ d : Decoded,
    (place [0xC3, 0x50, 0x01] 0xFFFF { base with pc := 0xFFFF }).fault = none ∧
    fetchDecode (place [0xC3, 0x50, 0x01] 0xFFFF { base with pc := 0xFFFF }) = .ok d ∧
    d.instr.WellFormed ∧ d.slot ∉ base.config.extraUnimplemented :=
  ⟨{ instr := .jpA16 0x0150, slot := .primary 0xC3, len := 3 }, by decide⟩

/-- A canonical memory with entries, and a step that stores. -/
theorem witness_StepKeepsMemoryCanonical :
    (place [0x36, 0x99] 0x0100 { base with h := 0xC0 }).mem.wf = true ∧
    steps [0x36, 0x99] { base with h := 0xC0 } (fun t => t.mem.length = 3) = true := by decide

theorem witness_ControlStateWriters :
    exec .reti base = .next { base with pc := 0x0000, sp := 0x0002, ime := true } := rfl

theorem witness_OutputsAreNeverRead :
    steps [0x76] { base with ime := true, stopped := true } (fun t => t.halted) = true := by decide

theorem witness_ProfilesAgreeElsewhere :
    (∀ o, Instr.decB ≠ rowInc o) ∧ (∀ e8, Instr.decB ≠ .addSpE8 e8) ∧
    (∀ e8, Instr.decB ≠ .ldHlSpE8 e8) ∧ ∃ t, exec .decB base = .next t := by
  refine ⟨fun o => ?_, fun e8 => Instr.noConfusion, fun e8 => Instr.noConfusion, ⟨_, rfl⟩⟩
  rcases o with ⟨⟨⟩⟩ | _ <;> exact Instr.noConfusion

/-- A store at the end of the address space leaves the byte before it. -/
theorem witness_OnlyStoredBytesChange :
    (∃ t, exec .ldAtHlA { base with h := 0xFF, l := 0xFF, a := 0x01 } = .next t) ∧
    (0xFFFE : Word) ∉ storeAddresses .ldAtHlA { base with h := 0xFF, l := 0xFF, a := 0x01 } :=
  ⟨⟨_, rfl⟩, by decide⟩

/-- Both sides of the slot's clause: the byte 0xCB, and its neighbours. -/
theorem witness_DecodingIsTotal : (0xCB : Byte) = 0xCB ∧ (0xCA : Byte) ≠ 0xCB ∧ (0xCC : Byte) ≠ 0xCB := by
  decide

theorem witness_DecodeOfEncode : (Instr.ldSpD16 0xFFFF).WellFormed ∧ Instr.set7A.WellFormed := by
  decide

theorem witness_EncodeOfDecode : ∃ d, decode [0x31, 0xFE, 0xFF, 0x00] = .ok d :=
  ⟨{ instr := .ldSpD16 0xFFFE, slot := .primary 0x31, len := 3 }, by decide⟩

/-- HALT, STOP at the end of the address space, a fault, and a step that ends nothing. -/
theorem witness_RunEndsAtHaltOrStop :
    endsRun (place [0x76] 0x0100 base) = true ∧
    endsRun (place [0x10, 0x5A] 0xFFFF { base with pc := 0xFFFF }) = true ∧
    steps [0xD3] base (fun t => t.fault ≠ none) = true ∧
    (steps [0x00] base (fun t => t.fault = none) = true ∧
      endsRun (place [0x00] 0x0100 base) = false) := by decide

end Sys2Proof.Tests
end

section
/-! ### FLAG_PROFILE outside INC, ADD SP,e8 and LD HL,SP+e8 (spec/00_scope.md R6, decision D13)

A state and the same state under another profile are related by `State.withProfile`. No read sees the profile
and every write commutes with changing it, so each shared operation commutes with it too (one commuting square
per operation); only `opInc`, `opAddSp` and `opLdHlSp` read the profile. -/

namespace Sys2Proof.Machine

/-- The state in a build that differs only in `FLAG_PROFILE` (R6). -/
def State.withProfile (profile : FlagProfile) (s : State) : State :=
  { s with config := { s.config with flagProfile := profile } }

/-! #### Reads do not see the profile -/

section
variable (profile : FlagProfile) (s : State)

@[simp] theorem State.withProfile_flags : (s.withProfile profile).flags = s.flags := rfl

@[simp] theorem State.withProfile_load (k : Word) :
    (s.withProfile profile).load k = s.load k := rfl

@[simp] theorem State.withProfile_reg8 (r : Reg8) :
    (s.withProfile profile).reg8 r = s.reg8 r := by cases r <;> rfl

@[simp] theorem State.withProfile_pair (q : Pair) :
    (s.withProfile profile).pair q = s.pair q := by cases q <;> rfl

@[simp] theorem State.withProfile_read8 (o : Opnd8) :
    (s.withProfile profile).read8 o = s.read8 o := by cases o <;> simp

@[simp] theorem State.withProfile_read16 (r : Reg16) :
    (s.withProfile profile).read16 r = s.read16 r := by cases r <;> rfl

@[simp] theorem State.withProfile_aluOperand (src : AluSrc) :
    (s.withProfile profile).aluOperand src = s.aluOperand src := by
  cases src with
  | opnd o => exact State.withProfile_read8 profile s o
  | imm n => rfl

/-! #### Writes commute with the profile -/

@[simp] theorem State.setFlags_withProfile (f : Flags) :
    (s.withProfile profile).setFlags f = (s.setFlags f).withProfile profile := rfl

@[simp] theorem State.setReg8_withProfile (r : Reg8) (v : Byte) :
    (s.withProfile profile).setReg8 r v = (s.setReg8 r v).withProfile profile := by cases r <;> rfl

@[simp] theorem State.setPair_withProfile (q : Pair) (v : Word) :
    (s.withProfile profile).setPair q v = (s.setPair q v).withProfile profile := by cases q <;> rfl

@[simp] theorem State.write8_withProfile (o : Opnd8) (v : Byte) :
    (s.withProfile profile).write8 o v = (s.write8 o v).withProfile profile := by
  cases o with
  | reg r => exact State.setReg8_withProfile profile s r v
  | atHl => rfl

@[simp] theorem State.write16_withProfile (r : Reg16) (v : Word) :
    (s.withProfile profile).write16 r v = (s.write16 r v).withProfile profile := by cases r <;> rfl

/-! #### The shared operations commute with the profile -/

theorem opLd_withProfile (dst src : Opnd8) :
    opLd dst src (s.withProfile profile) = (opLd dst src s).withProfile profile := by
  simp [opLd]

theorem opLdImm_withProfile (dst : Opnd8) (n : Byte) :
    opLdImm dst n (s.withProfile profile) = (opLdImm dst n s).withProfile profile := by
  simp [opLdImm]

theorem opAlu_withProfile (op : AluOp) (src : AluSrc) :
    opAlu op src (s.withProfile profile) = (opAlu op src s).withProfile profile := by
  rw [opAlu, State.withProfile_aluOperand]
  rfl

theorem opDec_withProfile (o : Opnd8) :
    opDec o (s.withProfile profile) = (opDec o s).withProfile profile := by
  simp [opDec]

theorem opAddHl_withProfile (r : Reg16) :
    opAddHl r (s.withProfile profile) = (opAddHl r s).withProfile profile := by
  simp [opAddHl]

theorem opShift_withProfile (op : ShiftOp) (o : Opnd8) :
    opShift op o (s.withProfile profile) = (opShift op o s).withProfile profile := by
  simp [opShift]

theorem opBit_withProfile (y : Fin 8) (o : Opnd8) :
    opBit y o (s.withProfile profile) = (opBit y o s).withProfile profile := by
  simp [opBit]

theorem opRes_withProfile (y : Fin 8) (o : Opnd8) :
    opRes y o (s.withProfile profile) = (opRes y o s).withProfile profile := by
  simp [opRes]

theorem opSet_withProfile (y : Fin 8) (o : Opnd8) :
    opSet y o (s.withProfile profile) = (opSet y o s).withProfile profile := by
  simp [opSet]

theorem push16_pair_withProfile (q : Pair) :
    (s.withProfile profile).push16 ((s.withProfile profile).pair q) =
      (s.push16 (s.pair q)).withProfile profile := by
  rw [State.withProfile_pair]
  rfl

theorem pop_withProfile (q : Pair) :
    ((s.withProfile profile).drop16).setPair q (s.withProfile profile).top16 =
      ((s.drop16).setPair q s.top16).withProfile profile :=
  State.setPair_withProfile profile s.drop16 q s.top16

theorem opJpIf_withProfile (cc : Cond) (nn : Word) :
    opJpIf cc nn (s.withProfile profile) = (opJpIf cc nn s).withProfile profile :=
  (apply_ite (State.withProfile profile) _ (s.setPc nn) s).symm

theorem opJrIf_withProfile (cc : Cond) (e8 : Byte) :
    opJrIf cc e8 (s.withProfile profile) = (opJrIf cc e8 s).withProfile profile :=
  (apply_ite (State.withProfile profile) _ (opJr e8 s) s).symm

theorem opCallIf_withProfile (cc : Cond) (nn : Word) :
    opCallIf cc nn (s.withProfile profile) = (opCallIf cc nn s).withProfile profile :=
  (apply_ite (State.withProfile profile) _ (opCall nn s) s).symm

theorem opRetIf_withProfile (cc : Cond) :
    opRetIf cc (s.withProfile profile) = (opRetIf cc s).withProfile profile :=
  (apply_ite (State.withProfile profile) _ (opRet s) s).symm

theorem opCbSlot_withProfile (op2 : Byte) :
    opCbSlot op2 (s.withProfile profile) = (opCbSlot op2 s).withProfile profile := by
  unfold opCbSlot
  generalize fieldX op2 = x
  match x with
  | 0 => exact opShift_withProfile profile s _ _
  | 1 => exact opBit_withProfile profile s _ _
  | 2 => exact opRes_withProfile profile s _ _
  | _ + 3 => exact opSet_withProfile profile s _ _

/-- The marker reads the build, but of it `EXTRA_UNIMPLEMENTED` alone (R89). -/
theorem opCbMarker_withProfile :
    opCbMarker (s.withProfile profile) = (opCbMarker s).withProfile profile := by
  have hslot := opCbSlot_withProfile profile (s.advance 1) (s.load s.pc)
  unfold opCbMarker
  rw [apply_ite (State.withProfile profile), ← hslot]
  rfl

end

/-! #### Every instruction but those three commutes with the profile -/

/-- The rows of R89 raise the exception with their opcode byte. -/
theorem exec_unimplementedRow {row : Byte × Instr} (h : row ∈ unimplementedRows) (s : State) :
    exec row.2 s = .next (raiseUnimplemented [row.1] s) := by
  simp only [unimplementedRows, List.mem_cons, List.not_mem_nil, or_false] at h
  rcases h with rfl | rfl | rfl | rfl | rfl | rfl | rfl | rfl | rfl | rfl | rfl <;> rfl

/-- The simulation: an instruction that is no 8-bit INC, no ADD SP,e8 and no LD HL,SP+e8 takes the state under
another profile to its next state under that profile. A row family cites its commuting square; the other
instructions name their operands, so both sides are the same state as they stand. -/
theorem exec_withProfile {i : Instr} {s t : State} (profile : FlagProfile) (hrun : Runs s i t)
    (hinc : ∀ o, i ≠ rowInc o) (hadd : ∀ e8, i ≠ .addSpE8 e8) (hld : ∀ e8, i ≠ .ldHlSpE8 e8) :
    exec i (s.withProfile profile) = .next (t.withProfile profile) := by
  cases hrun with
  | inc o => exact absurd rfl (hinc o)
  | addSpE8 e8 => exact absurd rfl (hadd e8)
  | ldHlSpE8 e8 => exact absurd rfl (hld e8)
  | ld dst src h => rw [exec_rowLd dst src h, opLd_withProfile]
  | ldImm dst n => rw [exec_rowLdImm, opLdImm_withProfile]
  | ldPair r nn => rw [exec_rowLdPair, State.write16_withProfile]
  | alu op src => rw [exec_rowAlu, opAlu_withProfile]
  | dec o => rw [exec_rowDec, opDec_withProfile]
  | addHl r => rw [exec_rowAddHl, opAddHl_withProfile]
  | incPair r => rw [exec_rowIncPair, State.withProfile_read16, State.write16_withProfile]
  | decPair r => rw [exec_rowDecPair, State.withProfile_read16, State.write16_withProfile]
  | push q => rw [exec_rowPush, push16_pair_withProfile]
  | pop q => rw [exec_rowPop, pop_withProfile]
  | shift op o => rw [exec_rowShift, opShift_withProfile]
  | bit y o => rw [exec_rowBit, opBit_withProfile]
  | res y o => rw [exec_rowRes, opRes_withProfile]
  | set y o => rw [exec_rowSet, opSet_withProfile]
  | jpIf cc nn => rw [exec_rowJp, opJpIf_withProfile]
  | jrIf cc e8 => rw [exec_rowJr, opJrIf_withProfile]
  | callIf cc nn => rw [exec_rowCall, opCallIf_withProfile]
  | retIf cc => rw [exec_rowRet, opRetIf_withProfile]
  | rst y => rw [exec_rowRst]; rfl
  | unimplemented row h => rw [exec_unimplementedRow h]; rfl
  | prefixCb => exact congrArg Host.Outcome.next (opCbMarker_withProfile profile s)
  | ldAAtBc | ldAAtDe | ldAAtA16 | ldhAAtA8 | ldAAtC | ldAtBcA | ldAtDeA | ldAtA16A | ldhAtA8A
  | ldAtCA | ldAAtHlInc | ldAAtHlDec | ldAtHlIncA | ldAtHlDecA | ldSpHl | ldAtA16Sp => rfl
  | rlca | rrca | rla | rra | ccf | scf | cpl | daa => rfl
  | jpA16 | jpHl | jrE8 | callA16 | ret | reti | nop | di | ei | halt | stop => rfl

/-! #### No instruction writes the parameters of the build -/

theorem config_ite {c : Prop} [Decidable c] {s t u : State} (ht : t.config = s.config)
    (hu : u.config = s.config) : (if c then t else u).config = s.config := by
  split
  · exact ht
  · exact hu

theorem opCbSlot_config (op2 : Byte) (s : State) : (opCbSlot op2 s).config = s.config := by
  unfold opCbSlot
  split
  · exact State.write8_config s _ _
  · rfl
  · exact State.write8_config s _ _
  · exact State.write8_config s _ _

/-- R87: no instruction writes the parameters of the build. -/
theorem config_of_runs {i : Instr} {s t : State} (hrun : Runs s i t) : t.config = s.config := by
  cases hrun with
  | ld | ldImm | inc | dec | shift | res | set => exact State.write8_config s _ _
  | ldPair | incPair | decPair => exact State.write16_config s _ _
  | pop q => exact State.setPair_config s.drop16 q s.top16
  | jpIf | jrIf | callIf | retIf => exact config_ite rfl rfl
  | prefixCb => exact config_ite rfl (opCbSlot_config _ (s.advance 1))
  | ldAAtBc | ldAAtDe | ldAAtA16 | ldhAAtA8 | ldAAtC | ldAtBcA | ldAtDeA | ldAtA16A | ldhAtA8A
  | ldAtCA | ldAAtHlInc | ldAAtHlDec | ldAtHlIncA | ldAtHlDecA | ldSpHl | ldAtA16Sp => rfl
  | alu | addHl | addSpE8 | ldHlSpE8 | push | bit => rfl
  | rlca | rrca | rla | rra | ccf | scf | cpl | daa => rfl
  | jpA16 | jpHl | jrE8 | callA16 | rst | ret | reti | nop | di | ei | halt | stop => rfl
  | unimplemented => rfl

/-- Settles O51: the inversion of `exec` gives the instruction's shape of effect, each shape but the three
excluded ones commutes with the profile, and none writes the rest of the build's parameters. -/
theorem profilesAgreeElsewhere : Obligations.ProfilesAgreeElsewhere := by
  unfold Obligations.ProfilesAgreeElsewhere
  intro i s t profile hinc hadd hld h
  have hrun : Runs s i t := runs_of_exec h
  simpa only [State.withProfile, config_of_runs hrun] using
    exec_withProfile profile hrun hinc hadd hld

end Sys2Proof.Machine
end

section
/-! ### The outputs IME, `halted` and `stopped` (spec/10_state.md R29, R30, spec/60_exceptions.md R266)

A state and the same state with other outputs are related by `State.withOutputs`. No read sees the outputs and
every write commutes with replacing them. So the next states an instruction gives from the two are again the
same up to their outputs, and `OutputsAfter` says which the instruction leaves. This one simulation shows both
that no instruction reads an output and which instructions write one. -/

namespace Sys2Proof.Machine

/-- The items of state that only the host reads (R29, R30): IME and the two latches. -/
structure Outputs where
  ime : Bool
  halted : Bool
  stopped : Bool

/-- The outputs a state shows. -/
def State.outputs (s : State) : Outputs := { ime := s.ime, halted := s.halted, stopped := s.stopped }

/-- The state with other outputs and nothing else changed. -/
def State.withOutputs (o : Outputs) (s : State) : State :=
  { s with ime := o.ime, halted := o.halted, stopped := o.stopped }

/-- The outputs an instruction may leave when it runs with the outputs `o`: the same, or, of one of the five
writers, `o` with its one output written. -/
inductive OutputsAfter (o : Outputs) : Instr → Outputs → Prop where
  | unchanged (i : Instr) : OutputsAfter o i o
  | di : OutputsAfter o .di { o with ime := false }
  | ei : OutputsAfter o .ei { o with ime := true }
  | reti : OutputsAfter o .reti { o with ime := true }
  | halt : OutputsAfter o .halt { o with halted := true }
  | stop (n : Byte) : OutputsAfter o (.stop n) { o with stopped := true }

section
variable (o : Outputs) (s : State)

@[simp] theorem State.outputs_withOutputs : (s.withOutputs o).outputs = o := rfl

@[simp] theorem State.withOutputs_outputs : s.withOutputs s.outputs = s := rfl

/-! #### Reads do not see the outputs -/

@[simp] theorem State.withOutputs_flags : (s.withOutputs o).flags = s.flags := rfl

@[simp] theorem State.withOutputs_config : (s.withOutputs o).config = s.config := rfl

@[simp] theorem State.withOutputs_load (k : Word) : (s.withOutputs o).load k = s.load k := rfl

@[simp] theorem State.withOutputs_reg8 (r : Reg8) : (s.withOutputs o).reg8 r = s.reg8 r := by
  cases r <;> rfl

@[simp] theorem State.withOutputs_pair (p : Pair) : (s.withOutputs o).pair p = s.pair p := by
  cases p <;> rfl

@[simp] theorem State.withOutputs_read8 (x : Opnd8) : (s.withOutputs o).read8 x = s.read8 x := by
  cases x <;> simp

@[simp] theorem State.withOutputs_read16 (r : Reg16) : (s.withOutputs o).read16 r = s.read16 r := by
  cases r <;> rfl

@[simp] theorem State.withOutputs_aluOperand (src : AluSrc) :
    (s.withOutputs o).aluOperand src = s.aluOperand src := by
  cases src with
  | opnd x => exact State.withOutputs_read8 o s x
  | imm n => rfl

/-! #### Writes commute with replacing the outputs -/

@[simp] theorem State.setFlags_withOutputs (f : Flags) :
    (s.withOutputs o).setFlags f = (s.setFlags f).withOutputs o := rfl

@[simp] theorem State.setPair_withOutputs (p : Pair) (v : Word) :
    (s.withOutputs o).setPair p v = (s.setPair p v).withOutputs o := by
  cases p <;> rfl

@[simp] theorem State.write8_withOutputs (x : Opnd8) (v : Byte) :
    (s.withOutputs o).write8 x v = (s.write8 x v).withOutputs o := by
  cases x with
  | reg r => cases r <;> rfl
  | atHl => rfl

@[simp] theorem State.write16_withOutputs (r : Reg16) (v : Word) :
    (s.withOutputs o).write16 r v = (s.write16 r v).withOutputs o := by
  cases r <;> rfl

/-! #### The shared operations commute with replacing the outputs -/

theorem opAlu_withOutputs (op : AluOp) (src : AluSrc) :
    opAlu op src (s.withOutputs o) = (opAlu op src s).withOutputs o := by
  rw [opAlu, State.withOutputs_aluOperand]
  rfl

theorem opShift_withOutputs (op : ShiftOp) (x : Opnd8) :
    opShift op x (s.withOutputs o) = (opShift op x s).withOutputs o := by
  simp [opShift]

theorem opBit_withOutputs (y : Fin 8) (x : Opnd8) :
    opBit y x (s.withOutputs o) = (opBit y x s).withOutputs o := by
  simp [opBit]

theorem opRes_withOutputs (y : Fin 8) (x : Opnd8) :
    opRes y x (s.withOutputs o) = (opRes y x s).withOutputs o := by
  simp [opRes]

theorem opSet_withOutputs (y : Fin 8) (x : Opnd8) :
    opSet y x (s.withOutputs o) = (opSet y x s).withOutputs o := by
  simp [opSet]

theorem opCbSlot_withOutputs (op2 : Byte) :
    opCbSlot op2 (s.withOutputs o) = (opCbSlot op2 s).withOutputs o := by
  unfold opCbSlot
  generalize fieldX op2 = x
  match x with
  | 0 => exact opShift_withOutputs o s _ _
  | 1 => exact opBit_withOutputs o s _ _
  | 2 => exact opRes_withOutputs o s _ _
  | _ + 3 => exact opSet_withOutputs o s _ _

theorem opCbMarker_withOutputs :
    opCbMarker (s.withOutputs o) = (opCbMarker s).withOutputs o := by
  have hslot := opCbSlot_withOutputs o (s.advance 1) (s.load s.pc)
  unfold opCbMarker
  rw [apply_ite (State.withOutputs o), ← hslot]
  rfl

theorem pop_withOutputs (p : Pair) :
    ((s.withOutputs o).drop16).setPair p (s.withOutputs o).top16 =
      ((s.drop16).setPair p s.top16).withOutputs o :=
  State.setPair_withOutputs o s.drop16 p s.top16

theorem opJpIf_withOutputs (cc : Cond) (nn : Word) :
    opJpIf cc nn (s.withOutputs o) = (opJpIf cc nn s).withOutputs o :=
  (apply_ite (State.withOutputs o) _ (s.setPc nn) s).symm

theorem opJrIf_withOutputs (cc : Cond) (e8 : Byte) :
    opJrIf cc e8 (s.withOutputs o) = (opJrIf cc e8 s).withOutputs o :=
  (apply_ite (State.withOutputs o) _ (opJr e8 s) s).symm

theorem opCallIf_withOutputs (cc : Cond) (nn : Word) :
    opCallIf cc nn (s.withOutputs o) = (opCallIf cc nn s).withOutputs o :=
  (apply_ite (State.withOutputs o) _ (opCall nn s) s).symm

theorem opRetIf_withOutputs (cc : Cond) :
    opRetIf cc (s.withOutputs o) = (opRetIf cc s).withOutputs o :=
  (apply_ite (State.withOutputs o) _ (opRet s) s).symm

end

/-! #### The simulation -/

/-- Five instructions write an output, and each writes the same value whatever the outputs were. -/
theorem exec_withOutputs {i : Instr} {s t : State} (o : Outputs) (hrun : Runs s i t) :
    ∃ o', OutputsAfter o i o' ∧ exec i (s.withOutputs o) = .next (t.withOutputs o') := by
  cases hrun with
  | di => exact ⟨_, .di, rfl⟩
  | ei => exact ⟨_, .ei, rfl⟩
  | reti => exact ⟨_, .reti, rfl⟩
  | halt => exact ⟨_, .halt, rfl⟩
  | stop n => exact ⟨_, .stop n, rfl⟩
  | ld dst src h => exact ⟨o, .unchanged _, by simp [exec_rowLd dst src h, opLd]⟩
  | ldImm dst n => exact ⟨o, .unchanged _, by simp [exec_rowLdImm, opLdImm]⟩
  | ldPair r nn => exact ⟨o, .unchanged _, by simp [exec_rowLdPair]⟩
  | alu op src => exact ⟨o, .unchanged _, by rw [exec_rowAlu, opAlu_withOutputs]⟩
  | inc x => exact ⟨o, .unchanged _, by simp [exec_rowInc, opInc]⟩
  | dec x => exact ⟨o, .unchanged _, by simp [exec_rowDec, opDec]⟩
  | addHl r => exact ⟨o, .unchanged _, by simp [exec_rowAddHl, opAddHl]⟩
  | incPair r => exact ⟨o, .unchanged _, by simp [exec_rowIncPair]⟩
  | decPair r => exact ⟨o, .unchanged _, by simp [exec_rowDecPair]⟩
  | push p => exact ⟨o, .unchanged _, by rw [exec_rowPush, State.withOutputs_pair]; rfl⟩
  | pop p => exact ⟨o, .unchanged _, by rw [exec_rowPop, pop_withOutputs]⟩
  | shift op x => exact ⟨o, .unchanged _, by rw [exec_rowShift, opShift_withOutputs]⟩
  | bit y x => exact ⟨o, .unchanged _, by rw [exec_rowBit, opBit_withOutputs]⟩
  | res y x => exact ⟨o, .unchanged _, by rw [exec_rowRes, opRes_withOutputs]⟩
  | set y x => exact ⟨o, .unchanged _, by rw [exec_rowSet, opSet_withOutputs]⟩
  | jpIf cc nn => exact ⟨o, .unchanged _, by rw [exec_rowJp, opJpIf_withOutputs]⟩
  | jrIf cc e8 => exact ⟨o, .unchanged _, by rw [exec_rowJr, opJrIf_withOutputs]⟩
  | callIf cc nn => exact ⟨o, .unchanged _, by rw [exec_rowCall, opCallIf_withOutputs]⟩
  | retIf cc => exact ⟨o, .unchanged _, by rw [exec_rowRet, opRetIf_withOutputs]⟩
  | rst y => exact ⟨o, .unchanged _, by rw [exec_rowRst]; rfl⟩
  | unimplemented row h => exact ⟨o, .unchanged _, by rw [exec_unimplementedRow h]; rfl⟩
  | prefixCb => exact ⟨o, .unchanged _, congrArg Host.Outcome.next (opCbMarker_withOutputs o s)⟩
  | ldAAtBc | ldAAtDe | ldAAtA16 | ldhAAtA8 | ldAAtC | ldAtBcA | ldAtDeA | ldAtA16A | ldhAtA8A
  | ldAtCA | ldAAtHlInc | ldAAtHlDec | ldAtHlIncA | ldAtHlDecA | ldSpHl | ldAtA16Sp
  | addSpE8 | ldHlSpE8 | rlca | rrca | rla | rra | ccf | scf | cpl | daa
  | jpA16 | jpHl | jrE8 | callA16 | ret | nop => exact ⟨o, .unchanged _, rfl⟩

/-! #### The step -/

/-- R82 of a state without a fault: the exception, or the instruction with PC past its bytes. -/
theorem step_of_fetchDecode {s : State} {d : Decoded} (hfault : s.fault = none)
    (hd : fetchDecode s = .ok d) :
    step s = if lacksDescriptor s.config d.slot then
        .next (raiseUnimplemented (slotBytes d.slot) (s.advance (slotBytes d.slot).length))
      else exec d.instr (s.advance d.len) := by
  simp [step, hfault, hd]

/-- R263: a step with a next state is a step of a state without a fault. -/
theorem fault_eq_none_of_step {s t : State} (h : step s = .next t) : s.fault = none := by
  cases hfault : s.fault with
  | none => rfl
  | some record => simp [step, hfault] at h

/-- The fetch and the exception do not see the outputs either, so the simulation extends to the step. -/
theorem step_withOutputs {s t : State} (o : Outputs) (h : step s = .next t) :
    ∃ o', step (s.withOutputs o) = .next (t.withOutputs o') := by
  have hfault : s.fault = none := fault_eq_none_of_step h
  obtain ⟨d, hd⟩ := Laws.fetchDecode_ok s
  have hstep := step_of_fetchDecode (s := s.withOutputs o) hfault hd
  rw [step_of_fetchDecode hfault hd] at h
  rw [State.withOutputs_config] at hstep
  split at h
  · next hlacks =>
    cases h
    exact ⟨o, by rw [hstep, if_pos hlacks]; rfl⟩
  · next hslot =>
    obtain ⟨o', -, hexec⟩ := exec_withOutputs o (runs_of_exec h)
    exact ⟨o', by rw [hstep, if_neg hslot]; exact hexec⟩

/-- Settles O50: the step from the state with other outputs ends in the same state up to its outputs. -/
theorem outputsAreNeverRead : Obligations.OutputsAreNeverRead := by
  unfold Obligations.OutputsAreNeverRead
  intro s t ime halted stopped h
  obtain ⟨o', hstep⟩ := step_withOutputs ⟨ime, halted, stopped⟩ h
  exact ⟨t.withOutputs o', hstep, rfl⟩

/-! #### The writers of the control state (R29, R30, R31, R87) -/

/-- The simulation at the outputs the state has: what an instruction leaves in IME and the latches. -/
theorem outputsAfter_of_exec {i : Instr} {s t : State} (h : exec i s = .next t) :
    OutputsAfter s.outputs i t.outputs := by
  obtain ⟨o', hafter, hexec⟩ := exec_withOutputs s.outputs (runs_of_exec h)
  rw [State.withOutputs_outputs, h, Host.Outcome.next.injEq] at hexec
  rw [hexec, State.outputs_withOutputs]
  exact hafter

/-- R29: IME is written by DI, EI and RETI alone. -/
theorem OutputsAfter.ime {o o' : Outputs} {i : Instr} (h : OutputsAfter o i o') :
    o'.ime = o.ime ∨ (i = .di ∧ o'.ime = false) ∨ (i = .ei ∧ o'.ime = true) ∨
      (i = .reti ∧ o'.ime = true) := by
  cases h <;> simp

/-- R30: `halted` is written by HALT alone, which sets it. -/
theorem OutputsAfter.halted {o o' : Outputs} {i : Instr} (h : OutputsAfter o i o') :
    o'.halted = o.halted ∨ (i = .halt ∧ o'.halted = true) := by
  cases h <;> simp

/-- R30: `stopped` is written by STOP alone, which sets it. -/
theorem OutputsAfter.stopped {o o' : Outputs} {i : Instr} (h : OutputsAfter o i o') :
    o'.stopped = o.stopped ∨ (∃ n, i = .stop n) ∧ o'.stopped = true := by
  cases h <;> simp

theorem opCbSlot_fault (op2 : Byte) (s : State) : (opCbSlot op2 s).fault = s.fault := by
  unfold opCbSlot
  split
  · exact State.write8_fault s _ _
  · rfl
  · exact State.write8_fault s _ _
  · exact State.write8_fault s _ _

/-- The marker writes `fault` at a slot without a descriptor only (R89). -/
theorem opCbMarker_fault (s : State) :
    (opCbMarker s).fault = s.fault ∨ .cb (s.load s.pc) ∈ s.config.extraUnimplemented := by
  unfold opCbMarker
  split
  · next hlacks => exact .inr (of_decide_eq_true hlacks)
  · exact .inl (opCbSlot_fault _ (s.advance 1))

/-- A conditional instruction keeps `fault` when both of its ways do. -/
theorem fault_ite {c : Prop} [Decidable c] {s t u : State} (ht : t.fault = s.fault)
    (hu : u.fault = s.fault) : (if c then t else u).fault = s.fault := by
  split
  · exact ht
  · exact hu

/-- R31: `fault` is written by the exception alone, of an unimplemented row or of the marker. -/
theorem fault_of_runs {i : Instr} {s t : State} (hrun : Runs s i t) :
    t.fault = s.fault ∨ (∃ row ∈ unimplementedRows, i = row.2) ∨
      (i = .prefixCb ∧ .cb (s.load s.pc) ∈ s.config.extraUnimplemented) := by
  cases hrun with
  | unimplemented row h => exact .inr (.inl ⟨row, h, rfl⟩)
  | prefixCb => exact (opCbMarker_fault s).imp_right fun hslot => .inr ⟨rfl, hslot⟩
  | ld | ldImm | inc | dec | shift | res | set => exact .inl (State.write8_fault s _ _)
  | ldPair | incPair | decPair => exact .inl (State.write16_fault s _ _)
  | pop p => exact .inl (State.setPair_fault s.drop16 p s.top16)
  | jpIf | jrIf | callIf | retIf => exact .inl (fault_ite rfl rfl)
  | ldAAtBc | ldAAtDe | ldAAtA16 | ldhAAtA8 | ldAAtC | ldAtBcA | ldAtDeA | ldAtA16A | ldhAtA8A
  | ldAtCA | ldAAtHlInc | ldAAtHlDec | ldAtHlIncA | ldAtHlDecA | ldSpHl | ldAtA16Sp
  | alu | addHl | addSpE8 | ldHlSpE8 | push | bit
  | rlca | rrca | rla | rra | ccf | scf | cpl | daa
  | jpA16 | jpHl | jrE8 | callA16 | rst | ret | reti | nop | di | ei | halt | stop => exact .inl rfl

/-- Settles O49: the outputs by the simulation, `fault` and the parameters by the shapes of effect. -/
theorem controlStateWriters : Obligations.ControlStateWriters := by
  unfold Obligations.ControlStateWriters
  intro i s t h
  have hafter : OutputsAfter s.outputs i t.outputs := outputsAfter_of_exec h
  have hrun : Runs s i t := runs_of_exec h
  exact ⟨hafter.ime, hafter.halted, hafter.stopped, fault_of_runs hrun, config_of_runs hrun⟩

end Sys2Proof.Machine
end

section
/-! ### Registers, pairs and the model's reset values (spec/10_state.md R22, R25, R26, R35) -/

namespace Sys2Proof.Machine

/-- R22: F is the flags in bits 7 to 4 with 0 below. -/
theorem State.flagByte_toNat (s : State) : s.flagByte.toNat =
    s.flags.z.toNat * 128 + s.flags.n.toNat * 64 + s.flags.h.toNat * 32 + s.flags.c.toNat * 16 := by
  have hz := s.flags.z.toNat_le
  have hn := s.flags.n.toNat_le
  have hh := s.flags.h.toNat_le
  have hc := s.flags.c.toNat_le
  simp only [State.flagByte, b2i_eq_toNat, BitVec.toNat_ofNat]
  omega

/-- R22, R25: AF reads as A times 256 plus the flags in bits 7 to 4. -/
theorem State.pair_af_toNat (s : State) : (s.pair .af).toNat =
    s.a.toNat * 256 + s.flags.z.toNat * 128 + s.flags.n.toNat * 64 + s.flags.h.toNat * 32 +
      s.flags.c.toNat * 16 := by
  have haf : (s.pair .af).toNat = s.a.toNat * 256 + s.flagByte.toNat := wordOf_toNat _ _
  rw [haf, State.flagByte_toNat]
  omega

/-- Settles O1: a read joins the two halves, a write splits the value into the same two halves, and the
operand names are cases of the accessors. -/
theorem pairsAreTheirHalves : Obligations.PairsAreTheirHalves := by
  unfold Obligations.PairsAreTheirHalves
  intro s v
  refine ⟨⟨?bc, ?de, ?hl, s.pair_af_toNat⟩,
    ⟨hiByte v, loByte v, hiByte_toNat v, loByte_toNat v, ?writes⟩, ?names8, ?names16⟩
  case bc => exact wordOf_toNat s.b s.c
  case de => exact wordOf_toNat s.d s.e
  case hl => exact wordOf_toNat s.h s.l
  case writes => exact ⟨rfl, rfl, rfl, rfl⟩
  case names8 => exact ⟨rfl, rfl, rfl, rfl, rfl, rfl, rfl⟩
  case names16 => exact ⟨rfl, rfl, rfl, rfl⟩

/-- Settles O58: the reset state holds 0 in every field, and its memory lists no byte, so each address reads
the unlisted value. -/
theorem resetModelValues : Obligations.ResetModelValues := by
  unfold Obligations.ResetModelValues
  exact ⟨fun r => by cases r <;> rfl, rfl, rfl, fun _ => rfl⟩

end Sys2Proof.Machine
end

section
/-! ### Memory (spec/20_memory.md R50, R52, R58, R59)

A next state's memory is the memory before with bytes written at the instruction's own addresses
(`storesWithin_of_runs`). The frame (R59) and the canonical form both follow from that one fact, since each
holds along any chain of writes. -/

namespace Sys2Proof.Machine

/-! #### Chains of writes -/

/-- `m'` is `m` after some number of writes of one byte (R52), each at an address of `addrs`. -/
inductive StoresWithin (addrs : List Word) (m : Memory) : Memory → Prop where
  | refl : StoresWithin addrs m m
  | write {m' : Memory} {k : Word} (h : StoresWithin addrs m m') (hk : k ∈ addrs) (v : Byte) :
    StoresWithin addrs m (m'.write k v)

/-- R58: a byte at no address of the chain reads as before. -/
theorem StoresWithin.read_other {addrs : List Word} {m m' : Memory} (h : StoresWithin addrs m m')
    {j : Word} (hj : j ∉ addrs) : m'.read j = m.read j := by
  induction h with
  | refl => rfl
  | write _ hk v ih => rw [Memory.read_write_other (ne_of_mem_of_not_mem hk hj).symm, ih]

/-- A chain of writes keeps the canonical form. -/
theorem StoresWithin.wf {addrs : List Word} {m m' : Memory} (h : StoresWithin addrs m m')
    (hm : m.wf = true) : m'.wf = true := by
  induction h with
  | refl => exact hm
  | write _ _ v ih => exact Memory.wf_write _ _ v ih

theorem StoresWithin.of_eq {addrs : List Word} {m m' : Memory} (h : m' = m) :
    StoresWithin addrs m m' := h ▸ .refl

theorem StoresWithin.ite {addrs : List Word} {m : Memory} {c : Prop} [Decidable c] {t u : State}
    (ht : StoresWithin addrs m t.mem) (hu : StoresWithin addrs m u.mem) :
    StoresWithin addrs m (if c then t else u).mem := by
  split
  · exact ht
  · exact hu

/-! #### Where a row stores -/

/-- The addresses a write of the 8-bit operand `o` stores to (R77): HL's for the byte at HL, else none. -/
def operandAddresses (o : Opnd8) (s : State) : List Word :=
  match o with
  | .reg _ => []
  | .atHl => [s.pair .hl]

/-- R76: the register code 6 alone names the byte at HL. -/
theorem operandAddresses_opndOfCode (code : Nat) (s : State) :
    operandAddresses (opndOfCode code) s = if code = 6 then [s.pair .hl] else [] := by
  match code with
  | 0 | 1 | 2 | 3 | 4 | 5 | 6 => rfl
  | n + 7 => exact (if_neg (by omega)).symm

section
variable (s : State)

theorem storeAddresses_rowLd (dst src : Opnd8) (h : ¬(dst = .atHl ∧ src = .atHl)) :
    storeAddresses (rowLd dst src) s = operandAddresses dst s := by
  cases dst with
  | reg r => rcases src with ⟨⟨⟩⟩ | _ <;> cases r <;> rfl
  | atHl =>
    cases src with
    | reg x => cases x <;> rfl
    | atHl => exact absurd ⟨rfl, rfl⟩ h

theorem storeAddresses_rowLdImm (dst : Opnd8) (n : Byte) :
    storeAddresses (rowLdImm dst n) s = operandAddresses dst s := by
  rcases dst with ⟨⟨⟩⟩ | _ <;> rfl

theorem storeAddresses_rowInc (o : Opnd8) :
    storeAddresses (rowInc o) s = operandAddresses o s := by
  rcases o with ⟨⟨⟩⟩ | _ <;> rfl

theorem storeAddresses_rowDec (o : Opnd8) :
    storeAddresses (rowDec o) s = operandAddresses o s := by
  rcases o with ⟨⟨⟩⟩ | _ <;> rfl

theorem storeAddresses_rowShift (op : ShiftOp) (o : Opnd8) :
    storeAddresses (rowShift op o) s = operandAddresses o s := by
  rcases o with ⟨⟨⟩⟩ | _ <;> cases op <;> rfl

theorem storeAddresses_rowRes (y : Fin 8) (o : Opnd8) :
    storeAddresses (rowRes y o) s = operandAddresses o s := by
  rcases o with ⟨⟨⟩⟩ | _ <;> match y with
    | 0 | 1 | 2 | 3 | 4 | 5 | 6 | 7 => rfl

theorem storeAddresses_rowSet (y : Fin 8) (o : Opnd8) :
    storeAddresses (rowSet y o) s = operandAddresses o s := by
  rcases o with ⟨⟨⟩⟩ | _ <;> match y with
    | 0 | 1 | 2 | 3 | 4 | 5 | 6 | 7 => rfl

theorem storeAddresses_rowPush (p : Pair) :
    storeAddresses (rowPush p) s = [s.sp - 1, s.sp - 2] := by
  cases p <;> rfl

theorem storeAddresses_rowCall (cc : Cond) (nn : Word) :
    storeAddresses (rowCall cc nn) s =
      if condHolds cc s.flags then [s.sp - 1, s.sp - 2] else [] := by
  cases cc <;> rfl

theorem storeAddresses_rowRst (y : Fin 8) :
    storeAddresses (rowRst y) s = [s.sp - 1, s.sp - 2] := by
  match y with
  | 0 | 1 | 2 | 3 | 4 | 5 | 6 | 7 => rfl

/-! #### The shared operations that store -/

theorem storesWithin_store (k : Word) (v : Byte) : StoresWithin [k] s.mem (s.store k v).mem :=
  .write .refl (List.mem_singleton_self k) v

theorem storesWithin_store16 (k v : Word) :
    StoresWithin [k, k + 1] s.mem (s.store16 k v).mem :=
  .write (.write .refl (by simp) _) (by simp) _

theorem storesWithin_push16 (v : Word) :
    StoresWithin [s.sp - 1, s.sp - 2] s.mem (s.push16 v).mem :=
  .write (.write .refl (by simp) _) (by simp) _

theorem storesWithin_write8 (o : Opnd8) (v : Byte) :
    StoresWithin (operandAddresses o s) s.mem (s.write8 o v).mem := by
  cases o with
  | reg r => exact .of_eq (State.setReg8_mem s r v)
  | atHl => exact storesWithin_store s _ v

theorem storesWithin_opCallIf (cc : Cond) (nn : Word) :
    StoresWithin (if condHolds cc s.flags then [s.sp - 1, s.sp - 2] else []) s.mem
      (opCallIf cc nn s).mem := by
  unfold opCallIf
  split
  · exact storesWithin_push16 s s.pc
  · exact .refl

/-- A CB slot stores to the byte at HL when it names it and is no BIT (R90, R204). -/
theorem storesWithin_opCbSlot (op2 : Byte) :
    StoresWithin (if fieldX op2 ≠ 1 ∧ fieldZ op2 = 6 then [s.pair .hl] else []) s.mem
      (opCbSlot op2 s).mem := by
  have hwrite (v : Byte) := storesWithin_write8 s (opndOfCode (fieldZ op2)) v
  simp only [operandAddresses_opndOfCode] at hwrite
  unfold opCbSlot
  generalize fieldX op2 = x
  match x with
  | 0 => simpa [opShift] using hwrite _
  | 1 => exact .refl
  | 2 => simpa [opRes] using hwrite _
  | _ + 3 => simpa [opSet] using hwrite _

end

/-! #### Every instruction -/

/-- Memory after an instruction is memory before it with writes at the addresses of its rule (R59). -/
theorem storesWithin_of_runs {i : Instr} {s t : State} (hrun : Runs s i t) :
    StoresWithin (storeAddresses i s) s.mem t.mem := by
  cases hrun with
  | ld dst src h => exact storeAddresses_rowLd s dst src h ▸ storesWithin_write8 s dst _
  | ldImm dst n => exact storeAddresses_rowLdImm s dst n ▸ storesWithin_write8 s dst n
  | inc o => exact storeAddresses_rowInc s o ▸ storesWithin_write8 s o _
  | dec o => exact storeAddresses_rowDec s o ▸ storesWithin_write8 s o _
  | shift op o => exact storeAddresses_rowShift s op o ▸ storesWithin_write8 s o _
  | res y o => exact storeAddresses_rowRes s y o ▸ storesWithin_write8 s o _
  | set y o => exact storeAddresses_rowSet s y o ▸ storesWithin_write8 s o _
  | ldAtBcA | ldAtDeA | ldAtA16A | ldhAtA8A | ldAtCA | ldAtHlIncA | ldAtHlDecA =>
    exact storesWithin_store s _ s.a
  | ldAtA16Sp nn => exact storesWithin_store16 s nn s.sp
  | push p => exact storeAddresses_rowPush s p ▸ storesWithin_push16 s _
  | callA16 nn => exact storesWithin_push16 s s.pc
  | callIf cc nn => exact storeAddresses_rowCall s cc nn ▸ storesWithin_opCallIf s cc nn
  | rst y => exact storeAddresses_rowRst s y ▸ storesWithin_push16 s s.pc
  | prefixCb => exact .ite .refl (storesWithin_opCbSlot (s.advance 1) (s.load s.pc))
  | ldPair | incPair | decPair => exact .of_eq (State.write16_mem s _ _)
  | pop p => exact .of_eq (State.setPair_mem s.drop16 p s.top16)
  | jpIf | jrIf | retIf => exact .ite .refl .refl
  | ldAAtBc | ldAAtDe | ldAAtA16 | ldhAAtA8 | ldAAtC | ldAAtHlInc | ldAAtHlDec | ldSpHl
  | alu | addHl | addSpE8 | ldHlSpE8 | bit
  | rlca | rrca | rla | rra | ccf | scf | cpl | daa
  | jpA16 | jpHl | jrE8 | ret | reti | nop | di | ei | halt | stop | unimplemented => exact .refl

/-- Settles O52: the chain of writes stays within the instruction's addresses, so no other byte changes. -/
theorem onlyStoredBytesChange : Obligations.OnlyStoredBytesChange := by
  unfold Obligations.OnlyStoredBytesChange
  intro i s t h k hk
  exact (storesWithin_of_runs (runs_of_exec h)).read_other hk

/-- R82: a step writes memory as its instruction does; the exception writes none (R262). -/
theorem storesWithin_of_step {s t : State} (h : step s = .next t) :
    ∃ addrs, StoresWithin addrs s.mem t.mem := by
  obtain ⟨d, hd⟩ := Laws.fetchDecode_ok s
  rw [step_of_fetchDecode (fault_eq_none_of_step h) hd] at h
  split at h
  · cases h
    exact ⟨[], .refl⟩
  · have hstores := storesWithin_of_runs (runs_of_exec h)
    exact ⟨_, hstores⟩

/-- Settles O47: a step is a chain of writes, and each write keeps the canonical form. -/
theorem stepKeepsMemoryCanonical : Obligations.StepKeepsMemoryCanonical := by
  unfold Obligations.StepKeepsMemoryCanonical
  intro s t hwf h
  obtain ⟨addrs, hstores⟩ := storesWithin_of_step h
  exact hstores.wf hwf

/-- Settles O48: memory at reset lists no byte (log entry 3), so nothing in it is out of form. -/
theorem resetMemoryIsCanonical : Obligations.ResetMemoryIsCanonical := by
  unfold Obligations.ResetMemoryIsCanonical
  rfl

end Sys2Proof.Machine
end

section
/-! ### Decoding and encoding (spec/30_encoding.md R70, R86 to R91)

`Spells bytes slot i` says that the dispatch ROM (R87) names `i` by exactly these bytes, through this slot. The
decoder reads a list of bytes as the instruction its first bytes spell (`decode_of_spells`, `spells_of_decode`).
Encoding gives the spelling back, because the encoder agrees with both tables slot by slot (`encode_of_spells`);
and every instruction but the marker is spelled by its encoding, family by family (`spells_encode`). -/

namespace Sys2Proof

/-! #### The primary table by rows -/

/-- The 16 rows of PRIMARY_TABLE (R88), in the order of op[7:4]. -/
def primaryRows : List (List Descriptor) :=
  [ primaryRow0, primaryRow1, primaryRow2, primaryRow3, primaryRow4, primaryRow5, primaryRow6, primaryRow7,
    primaryRow8, primaryRow9, primaryRowA, primaryRowB, primaryRowC, primaryRowD, primaryRowE, primaryRowF ]

/-- The descriptor in row op[7:4], column op[3:0], of R88. Unlike `primaryLookup`, which walks 16 appended
lists, it evaluates fast. -/
def rowLookup (op : Byte) : Option Descriptor :=
  primaryRows[op.toNat / 16]?.bind fun row => row[op.toNat % 16]?

theorem primaryTable_eq_flatten : primaryTable = primaryRows.flatten := by
  simp only [primaryTable, primaryRows, List.append_assoc, List.flatten_cons, List.flatten_nil,
    List.append_nil]

theorem length_of_mem_primaryRows : ∀ row ∈ primaryRows, row.length = 16 := by
  simp only [primaryRows, List.forall_mem_cons]
  exact ⟨rfl, rfl, rfl, rfl, rfl, rfl, rfl, rfl, rfl, rfl, rfl, rfl, rfl, rfl, rfl, rfl, by simp⟩

/-- Lists of one length `n`, joined, are indexed by the list and the place in it. -/
theorem getElem?_flatten_of_length {α : Type} {n c : Nat} (hc : c < n) :
    ∀ {rows : List (List α)} (r : Nat), (∀ row ∈ rows, row.length = n) →
      rows.flatten[n * r + c]? = rows[r]?.bind fun row => row[c]?
  | [], r, _ => by simp
  | row :: rows, 0, h => by
    have hlen : row.length = n := h row List.mem_cons_self
    simp [List.getElem?_append_left, hlen, hc]
  | row :: rows, r + 1, h => by
    have hlen : row.length = n := h row List.mem_cons_self
    have hindex : n * (r + 1) + c - row.length = n * r + c := by rw [hlen, Nat.mul_succ]; omega
    rw [List.flatten_cons, List.getElem?_append_right (by rw [hlen, Nat.mul_succ]; omega), hindex,
      List.getElem?_cons_succ]
    exact getElem?_flatten_of_length hc r fun x hx => h x (List.mem_cons_of_mem row hx)

theorem rowLookup_eq (op : Byte) : rowLookup op = some (primaryLookup op) := by
  have hop : 16 * (op.toNat / 16) + op.toNat % 16 = op.toNat := Nat.div_add_mod _ _
  have hrow := getElem?_flatten_of_length (Nat.mod_lt op.toNat (by decide : 0 < 16)) (op.toNat / 16)
    length_of_mem_primaryRows
  rw [rowLookup, ← hrow, hop, ← primaryTable_eq_flatten]
  exact List.getElem?_eq_getElem _

theorem primaryLookup_of_row {op : Byte} {d : Descriptor} (h : rowLookup op = some d) :
    primaryLookup op = d :=
  Option.some.inj ((rowLookup_eq op).symm.trans h)

/-- R86: the marker is slot 0xCB and no other. -/
theorem primaryLookup_eq_marker_iff (op : Byte) : primaryLookup op = .marker ↔ op = 0xCB := by
  constructor
  · intro h
    simpa [h] using primaryLookup_marker_iff op
  · rintro rfl
    exact primaryLookup_of_row rfl

theorem ne_0xCB_of_primaryLookup {op : Byte} {d : Descriptor} (h : primaryLookup op = d)
    (hd : d ≠ .marker) : op ≠ 0xCB := fun hop =>
  hd (h.symm.trans ((primaryLookup_eq_marker_iff op).mpr hop))

/-! #### The encoder agrees with the tables slot by slot -/

/-- The instruction a descriptor gives with the immediate `nn`, or its low byte; the marker's is its own row
(log entry 10). -/
def Descriptor.instr (d : Descriptor) (nn : Word) : Instr :=
  match d with
  | .plain i => i
  | .imm8 f => f (loByte nn)
  | .imm16 f => f nn
  | .marker => .prefixCb

/-- The immediate bytes of that instruction (R72, R73). -/
def Descriptor.immediate (d : Descriptor) (nn : Word) : List Byte :=
  match d with
  | .plain _ => []
  | .imm8 _ => [loByte nn]
  | .imm16 _ => [loByte nn, hiByte nn]
  | .marker => []

/-- The encoder along the rows of R88: column c of row r is encoded as the byte 16r + c and its immediate. -/
theorem encode_primaryRows (nn : Word) :
    primaryRows.map (fun row => row.map fun d => encode (d.instr nn)) =
      primaryRows.zipIdx.map fun row => (row.1.zipIdx (16 * row.2)).map fun d =>
        BitVec.ofNat 8 d.2 :: d.1.immediate nn :=
  rfl

/-- R70, R87: the row of a primary slot is encoded as the slot's index and the immediate. -/
theorem encode_primaryLookup (op : Byte) (nn : Word) :
    encode ((primaryLookup op).instr nn) = op :: (primaryLookup op).immediate nn := by
  have hop : 16 * (op.toNat / 16) + op.toNat % 16 = op.toNat := Nat.div_add_mod _ _
  have h := congrArg (fun rows => rows[op.toNat / 16]?.bind fun row => row[op.toNat % 16]?)
    (encode_primaryRows nn)
  have hl := rowLookup_eq op
  unfold rowLookup at hl
  obtain ⟨row, hrow, hd⟩ := Option.bind_eq_some_iff.mp hl
  simpa [hrow, hd, hop] using h

/-- R90: the row of a CB slot is encoded as 0xCB and the slot's index. -/
theorem encode_cbLookup (op2 : Byte) : encode (cbLookup op2) = [0xCB, op2] := by
  revert op2
  decide

/-! #### What the bytes spell -/

/-- The dispatch ROM names the instruction by these bytes, through this slot (R70, R87). -/
inductive Spells : List Byte → Slot → Instr → Prop where
  | plain {op : Byte} {i : Instr} (h : primaryLookup op = .plain i) : Spells [op] (.primary op) i
  | imm8 {op : Byte} {f : Byte → Instr} (h : primaryLookup op = .imm8 f) (n : Byte) :
    Spells [op, n] (.primary op) (f n)
  | imm16 {op : Byte} {f : Word → Instr} (h : primaryLookup op = .imm16 f) (nn : Word) :
    Spells [op, loByte nn, hiByte nn] (.primary op) (f nn)
  | cb {op2 : Byte} {i : Instr} (h : cbLookup op2 = i) : Spells [0xCB, op2] (.cb op2) i

/-- R70: one to three bytes. -/
theorem spells_length {bytes : List Byte} {slot : Slot} {i : Instr} (h : Spells bytes slot i) :
    1 ≤ bytes.length ∧ bytes.length ≤ 3 := by
  cases h <;> simp

theorem encode_of_spells {bytes : List Byte} {slot : Slot} {i : Instr} (h : Spells bytes slot i) :
    encode i = bytes := by
  cases h with
  | @plain op _ h => simpa [h, Descriptor.instr, Descriptor.immediate] using encode_primaryLookup op 0
  | @imm8 op _ h n =>
    simpa [h, Descriptor.instr, Descriptor.immediate] using encode_primaryLookup op (wordOf 0 n)
  | @imm16 op _ h nn =>
    simpa [h, Descriptor.instr, Descriptor.immediate] using encode_primaryLookup op nn
  | @cb op2 _ h => exact h ▸ encode_cbLookup op2

theorem wellFormed_of_ne_prefixCb {i : Instr} (h : i ≠ .prefixCb) : i.WellFormed := by
  unfold Instr.WellFormed Instr.isWellFormed
  split
  · exact absurd rfl h
  · rfl

/-- R86: no bytes spell the marker's own row, whose encoding is the byte 0xCB alone. -/
theorem wellFormed_of_spells {bytes : List Byte} {slot : Slot} {i : Instr} (h : Spells bytes slot i) :
    i.WellFormed := by
  refine wellFormed_of_ne_prefixCb fun hi => ?_
  have hbytes : [0xCB] = bytes := by rw [← encode_of_spells h, hi]; rfl
  cases h with
  | plain h => exact ne_0xCB_of_primaryLookup h Descriptor.noConfusion (List.head_eq_of_cons_eq hbytes).symm
  | imm8 | imm16 | cb => simp at hbytes

/-! #### What the decoder reads -/

theorem decode_of_spells {bytes : List Byte} {slot : Slot} {i : Instr} (h : Spells bytes slot i)
    (rest : List Byte) :
    decode (bytes ++ rest) = .ok { instr := i, slot := slot, len := bytes.length } := by
  cases h with
  | plain h => exact decode_plain h rest
  | imm8 h n => exact decode_imm8 h n rest
  | imm16 h nn => simpa using decode_imm16 h (loByte nn) (hiByte nn) rest
  | cb h => exact h ▸ decode_marker ((primaryLookup_eq_marker_iff _).mpr rfl) _ rest

/-- The inversion of the decoder: it reads what the first bytes of the list spell. -/
theorem spells_of_decode {bytes : List Byte} {d : Decoded} (h : decode bytes = .ok d) :
    ∃ word rest, bytes = word ++ rest ∧ d.len = word.length ∧ Spells word d.slot d.instr := by
  unfold decode at h
  split at h
  · cases h
  · next op rest =>
    split at h <;> cases h
    · next hl => exact ⟨[op], _, rfl, rfl, .plain hl⟩
    · next n rest hl => exact ⟨[op, n], rest, rfl, rfl, .imm8 hl n⟩
    · next lo hi rest hl =>
      exact ⟨[op, lo, hi], rest, rfl, rfl, by simpa using Spells.imm16 hl (wordOf hi lo)⟩
    · next op2 rest hl =>
      have hop : op = 0xCB := (primaryLookup_eq_marker_iff op).mp hl
      exact ⟨[op, op2], rest, rfl, rfl, hop ▸ .cb rfl⟩

/-- R82, R86: the slot is the second byte's behind 0xCB, else the first byte's. -/
theorem slot_of_decode {b0 b1 b2 : Byte} {rest : List Byte} {d : Decoded}
    (h : decode (b0 :: b1 :: b2 :: rest) = .ok d) :
    d.slot = if b0 = 0xCB then .cb b1 else .primary b0 := by
  obtain ⟨word, tail, hbytes, -, hspells⟩ := spells_of_decode h
  generalize d.slot = slot, d.instr = i at hspells
  cases hspells with
  | plain hl | imm8 hl | imm16 hl =>
    cases hbytes
    exact (if_neg (ne_0xCB_of_primaryLookup hl Descriptor.noConfusion)).symm
  | cb => cases hbytes; rfl

/-- Settles O55: what was decoded is spelled by the first bytes, and encoding gives the spelling back. -/
theorem encodeOfDecode : Obligations.EncodeOfDecode := by
  unfold Obligations.EncodeOfDecode
  intro bytes d h
  obtain ⟨word, rest, rfl, hlen, hspells⟩ := spells_of_decode h
  rw [hlen, List.take_left, encode_of_spells hspells]

/-- Settles O53: three bytes decode; what they spell is well-formed, and the slot is the one they index. -/
theorem decodingIsTotal : Obligations.DecodingIsTotal := by
  unfold Obligations.DecodingIsTotal
  intro b0 b1 b2 rest
  obtain ⟨d, hd⟩ := decode_three_ok b0 b1 b2 rest
  obtain ⟨word, -, -, hlen, hspells⟩ := spells_of_decode hd
  obtain ⟨hmin, hmax⟩ := spells_length hspells
  have hslot := slot_of_decode hd
  refine ⟨d, hd, wellFormed_of_spells hspells, hlen ▸ hmin, hlen ▸ hmax, ?_, hslot⟩
  rw [hslot]
  split
  · next hb => rw [hb]; rfl
  · rfl

end Sys2Proof

namespace Sys2Proof.Machine

/-- Every instruction but the marker is spelled by its encoding, in the slot of its row (R88, R90). The
inversion of `exec`, at any one state, gives the instruction's family. -/
theorem spells_encode {i : Instr} (hwf : i.WellFormed) : ∃ slot, Spells (encode i) slot i := by
  obtain ⟨t, -, hrun⟩ := exec_runs i State.reset
  cases hrun with
  | nop | di | ei | halt | ccf | scf | cpl | daa | rlca | rrca | rla | rra | jpHl | ret | reti | ldSpHl
  | ldAAtBc | ldAAtDe | ldAAtC | ldAtBcA | ldAtDeA | ldAtCA | ldAAtHlInc | ldAAtHlDec | ldAtHlIncA
  | ldAtHlDecA => exact ⟨_, .plain (primaryLookup_of_row rfl)⟩
  | ldhAAtA8 n | ldhAtA8A n | addSpE8 n | ldHlSpE8 n | jrE8 n | stop n =>
    exact ⟨_, .imm8 (primaryLookup_of_row rfl) n⟩
  | ldAAtA16 nn | ldAtA16A nn | ldAtA16Sp nn | jpA16 nn | callA16 nn =>
    exact ⟨_, .imm16 (primaryLookup_of_row rfl) nn⟩
  | ld dst src h =>
    rcases dst with ⟨⟨⟩⟩ | _ <;> rcases src with ⟨⟨⟩⟩ | _ <;>
      exact ⟨_, .plain (primaryLookup_of_row rfl)⟩
  | ldImm o n => rcases o with ⟨⟨⟩⟩ | _ <;> exact ⟨_, .imm8 (primaryLookup_of_row rfl) n⟩
  | alu op src =>
    cases src with
    | opnd o =>
      rcases o with ⟨⟨⟩⟩ | _ <;> cases op <;> exact ⟨_, .plain (primaryLookup_of_row rfl)⟩
    | imm n => cases op <;> exact ⟨_, .imm8 (primaryLookup_of_row rfl) n⟩
  | inc o | dec o =>
    rcases o with ⟨⟨⟩⟩ | _ <;> exact ⟨_, .plain (primaryLookup_of_row rfl)⟩
  | ldPair r nn => cases r <;> exact ⟨_, .imm16 (primaryLookup_of_row rfl) nn⟩
  | addHl x | incPair x | decPair x | push x | pop x | retIf x =>
    cases x <;> exact ⟨_, .plain (primaryLookup_of_row rfl)⟩
  | jpIf cc nn | callIf cc nn => cases cc <;> exact ⟨_, .imm16 (primaryLookup_of_row rfl) nn⟩
  | jrIf cc n => cases cc <;> exact ⟨_, .imm8 (primaryLookup_of_row rfl) n⟩
  | rst y => match y with
    | 0 | 1 | 2 | 3 | 4 | 5 | 6 | 7 => exact ⟨_, .plain (primaryLookup_of_row rfl)⟩
  | shift op o => rcases o with ⟨⟨⟩⟩ | _ <;> cases op <;> exact ⟨_, .cb rfl⟩
  | bit y o | res y o | set y o =>
    rcases o with ⟨⟨⟩⟩ | _ <;> match y with
      | 0 | 1 | 2 | 3 | 4 | 5 | 6 | 7 => exact ⟨_, .cb rfl⟩
  | unimplemented row h =>
    fin_cases h <;> exact ⟨_, .plain (primaryLookup_of_row rfl)⟩
  | prefixCb => exact absurd hwf Bool.noConfusion

/-- A well-formed instruction stands in memory as its encoding (R70, R86). -/
theorem encodedAs_encode {i : Instr} (hwf : i.WellFormed) : EncodedAs i (encode i) := by
  obtain ⟨slot, hspells⟩ := spells_encode hwf
  exact ⟨rfl, fun rest => ⟨slot, decode_of_spells hspells rest⟩⟩

/-- Settles O54: the encoding spells the instruction, and the decoder reads what the first bytes spell. -/
theorem decodeOfEncode : Obligations.DecodeOfEncode := by
  unfold Obligations.DecodeOfEncode
  intro i rest hwf
  obtain ⟨-, hdecode⟩ := encodedAs_encode hwf
  obtain ⟨slot, h⟩ := hdecode rest
  exact ⟨_, h, rfl, rfl⟩

/-! #### The step at the marker (R82, R86) -/

@[simp] theorem State.advance_advance (s : State) (m n : Nat) :
    (s.advance m).advance n = s.advance (m + n) := by
  simp [State.advance, State.setPc, BitVec.add_assoc, BitVec.ofNat_add]

/-- The marker by the CB table's rows: the exception, or the row of slot op2 (R82, R90). -/
theorem exec_prefixCb (s : State) :
    exec .prefixCb s =
      if lacksDescriptor s.config (.cb (s.load s.pc)) then
        .next (raiseUnimplemented (slotBytes (.cb (s.load s.pc))) (s.advance 1))
      else exec (cbLookup (s.load s.pc)) (s.advance 1) := by
  rw [exec_cbLookup]
  exact apply_ite Host.Outcome.next _ _ _

/-- Settles O44: the two clauses are the two branches of the marker's meaning. -/
theorem markerRunsTheCbTable : Obligations.MarkerRunsTheCbTable := by
  unfold Obligations.MarkerRunsTheCbTable
  intro s
  refine ⟨fun hslot => ?_, fun hslot => ?_⟩
  · rw [exec_prefixCb, if_neg (by simpa [lacksDescriptor] using hslot), exec_cbLookup]
    exact ⟨_, rfl, exec_cbLookup _ _⟩
  · rw [exec_prefixCb, if_pos (by simpa [lacksDescriptor] using hslot)]
    have hpc : s.pc + 1#16 - 2#16 = s.pc - 1#16 := by bv_omega
    simp [raiseUnimplemented, slotBytes, State.advance, State.setPc, hpc]

/-- Settles O45: the decoder reads the row of slot op2, and the marker runs that same row with PC past both
bytes. -/
theorem stepAtMarkerIsItsRow : Obligations.StepAtMarkerIsItsRow := by
  unfold Obligations.StepAtMarkerIsItsRow
  intro s hfault hop
  have hd : fetchDecode s = .ok
      { instr := cbLookup (s.load (s.pc + 1)), slot := .cb (s.load (s.pc + 1)), len := 2 } := by
    unfold fetchDecode State.window
    rw [hop]
    exact decode_of_spells (.cb rfl) [s.load (s.pc + 2)]
  have hrow := exec_prefixCb (s.advance 1)
  rw [State.advance_advance] at hrow
  rw [step_of_fetchDecode hfault hd]
  exact hrow.symm

/-- Settles O46: the three bytes at PC are the window of the fetch, and the slot has a descriptor. -/
theorem stepRunsDecodedInstruction : Obligations.StepRunsDecodedInstruction := by
  unfold Obligations.StepRunsDecodedInstruction
  intro s d hfault hd _ hslot
  rw [step_of_fetchDecode hfault hd, if_neg (by simpa [lacksDescriptor] using hslot)]
  rfl

end Sys2Proof.Machine
end

section
/-! ### The load family (spec/41_load.md R100 to R121)

The effects are those of the family's shared operations (`opLd_spec` and the like); what `OnlyOperand` leaves
unchanged is read off once for a register and once for the byte at HL. The encodings are the encoder's. -/

namespace Sys2Proof.Machine

/-! #### The rows' encodings -/

/-- R88, R102, R104, R105: `01 yyy zzz`, the slot of HALT among them. -/
theorem encodedAs_rowLd (dst src : Opnd8) :
    EncodedAs (rowLd dst src) [BitVec.ofNat 8 (0x40 + 8 * opndCode dst + opndCode src)] := by
  rcases dst with ⟨⟨⟩⟩ | _ <;> rcases src with ⟨⟨⟩⟩ | _ <;> exact encodedAs_encode rfl

/-- R103, R106: `00 yyy 110 n`. -/
theorem encodedAs_rowLdImm (dst : Opnd8) (n : Byte) :
    EncodedAs (rowLdImm dst n) [BitVec.ofNat 8 (0x06 + 8 * opndCode dst), n] := by
  rcases dst with ⟨⟨⟩⟩ | _ <;> exact encodedAs_encode rfl

/-- R119: `00 pp 0001 lo hi`. -/
theorem encodedAs_rowLdPair (r : Reg16) (nn : Word) :
    EncodedAs (rowLdPair r nn)
      [BitVec.ofNat 8 (0x01 + 16 * reg16Code r), loByte nn, hiByte nn] := by
  cases r <;> exact encodedAs_encode rfl

/-! #### What a load leaves unchanged -/

/-- When the operand written is a register, no byte of memory changes. -/
theorem OnlyOperand.of_reg {r : Reg8} {s t : State} (h : OnlyOperand (.reg r) s t)
    (hflags : t.flags = s.flags) :
    SameRegsBut (· = r) s t ∧ t.flags = s.flags ∧ t.sp = s.sp ∧ t.pc = s.pc ∧ SameMemory s t ∧
      SameControl s t := by
  obtain ⟨hregs, hmem, hsp, hpc, hcontrol⟩ := h
  exact ⟨fun x hx => hregs x fun e => hx (Opnd8.reg.inj e).symm, hflags, hsp, hpc,
    fun k => hmem k fun e => Opnd8.noConfusion e.1, hcontrol⟩

/-- When the operand written is the byte at HL, no register changes. -/
theorem OnlyOperand.of_atHl {s t : State} (h : OnlyOperand .atHl s t)
    (hflags : t.flags = s.flags) :
    SameMemoryBut (· = s.pair .hl) s t ∧ SameRegs s t ∧ t.flags = s.flags ∧ t.sp = s.sp ∧
      t.pc = s.pc ∧ SameControl s t := by
  obtain ⟨hregs, hmem, hsp, hpc, hcontrol⟩ := h
  exact ⟨fun k hk => hmem k fun e => hk e.2, fun x => hregs x Opnd8.noConfusion, hflags, hsp,
    hpc, hcontrol⟩

/-- `opLoadAThenHl`: A is the byte at the old HL, HL is moved; nothing else changes (R116, R118). -/
theorem opLoadAThenHl_spec (delta : Word) (s : State) :
    (opLoadAThenHl delta s).a = s.load (s.pair .hl) ∧
      (opLoadAThenHl delta s).pair .hl = s.pair .hl + delta ∧
      SameRegsBut (fun r => r = .a ∨ HalfOf .hl r) s (opLoadAThenHl delta s) ∧
      (opLoadAThenHl delta s).flags = s.flags ∧ (opLoadAThenHl delta s).sp = s.sp ∧
      (opLoadAThenHl delta s).pc = s.pc ∧ SameMemory s (opLoadAThenHl delta s) ∧
      SameControl s (opLoadAThenHl delta s) := by
  refine ⟨rfl, State.pair_setPair Pair.noConfusion _ _, fun r hr => ?regs, rfl, rfl, rfl,
    fun _ => rfl, rfl, rfl, rfl, rfl, rfl⟩
  case regs =>
    rw [not_or] at hr
    rw [opLoadAThenHl, State.setPair_reg8_other hr.2, opLoadA, State.reg8_setReg8_other hr.1]

/-- `opStoreAThenHl`: the byte at the old HL is A, HL is moved; nothing else changes (R115, R117). -/
theorem opStoreAThenHl_spec (delta : Word) (s : State) :
    (opStoreAThenHl delta s).load (s.pair .hl) = s.a ∧
      SameMemoryBut (· = s.pair .hl) s (opStoreAThenHl delta s) ∧
      (opStoreAThenHl delta s).pair .hl = s.pair .hl + delta ∧
      SameRegsBut (HalfOf .hl) s (opStoreAThenHl delta s) ∧
      (opStoreAThenHl delta s).flags = s.flags ∧ (opStoreAThenHl delta s).sp = s.sp ∧
      (opStoreAThenHl delta s).pc = s.pc ∧ SameControl s (opStoreAThenHl delta s) := by
  obtain ⟨hload, hmem, hregs, -⟩ := opStoreA_spec (s.pair .hl) s
  refine ⟨?load, fun k hk => ?mem, State.pair_setPair Pair.noConfusion _ _, fun r hr => ?regs,
    rfl, rfl, rfl, rfl, rfl, rfl, rfl, rfl⟩
  case load => rw [opStoreAThenHl, State.setPair_load, hload]
  case mem => rw [opStoreAThenHl, State.setPair_load, hmem k hk]
  case regs => rw [opStoreAThenHl, State.setPair_reg8_other hr, hregs r]

/-- A 16-bit store: the two halves little-endian; nothing else changes (R55, R120). The two addresses differ, also
across 0xFFFF. -/
theorem State.store16_spec (addr v : Word) (s : State) :
    (s.store16 addr v).load addr = loByte v ∧ (s.store16 addr v).load (addr + 1) = hiByte v ∧
      SameMemoryBut (fun k => k = addr ∨ k = addr + 1) s (s.store16 addr v) ∧
      SameRegs s (s.store16 addr v) ∧ (s.store16 addr v).flags = s.flags ∧
      (s.store16 addr v).sp = s.sp ∧ (s.store16 addr v).pc = s.pc ∧
      SameControl s (s.store16 addr v) := by
  refine ⟨?low, ?high, fun k hk => ?mem, fun r => State.store16_reg8 s addr v r, rfl, rfl, rfl,
    rfl, rfl, rfl, rfl, rfl⟩
  case low => rw [State.load_store16, if_neg (word_add_one_ne addr).symm, if_pos rfl]
  case high => rw [State.load_store16, if_pos rfl]
  case mem =>
    rw [not_or] at hk
    rw [State.load_store16, if_neg hk.2, if_neg hk.1]

theorem loadsA_of_exec {i : Instr} {addr : Word} {s : State}
    (h : exec i s = .next (opLoadA addr s)) : LoadsA i addr s :=
  ⟨_, h, opLoadA_spec addr s⟩

theorem storesA_of_exec {i : Instr} {addr : Word} {s : State}
    (h : exec i s = .next (opStoreA addr s)) : StoresA i addr s :=
  ⟨_, h, opStoreA_spec addr s⟩

/-! #### The statements -/

/-- Settles O2: `opLd` and `opLdImm` with a register as the destination. -/
theorem loadRegister : Obligations.LoadRegister := by
  unfold Obligations.LoadRegister
  refine ⟨fun dst r s => ⟨encodedAs_rowLd _ _, ?_⟩, fun dst n s => ⟨encodedAs_rowLdImm _ _, ?_⟩⟩
  · obtain ⟨hvalue, hflags, hframe⟩ := opLd_spec (.reg dst) (.reg r) s
    have hexec := exec_rowLd (.reg dst) (.reg r) (fun h => Opnd8.noConfusion h.1) s
    exact ⟨_, hexec, hvalue, hframe.of_reg hflags⟩
  · obtain ⟨hvalue, hflags, hframe⟩ := opLdImm_spec (.reg dst) n s
    exact ⟨_, exec_rowLdImm _ n s, hvalue, hframe.of_reg hflags⟩

/-- Settles O3: `opLd` reads its source, at the old HL, before it writes a register (R101). -/
theorem loadRegisterFromByteAtHl : Obligations.LoadRegisterFromByteAtHl := by
  unfold Obligations.LoadRegisterFromByteAtHl
  intro dst s
  have hcode : 0x46 + 8 * opndCode (.reg dst) = 0x40 + 8 * opndCode (.reg dst) + opndCode .atHl :=
    Nat.add_right_comm 0x40 6 _
  obtain ⟨hvalue, hflags, hframe⟩ := opLd_spec (.reg dst) .atHl s
  have hexec := exec_rowLd (.reg dst) .atHl (fun h => Opnd8.noConfusion h.1) s
  exact ⟨hcode ▸ encodedAs_rowLd _ _, _, hexec, hvalue, hframe.of_reg hflags⟩

/-- Settles O4: `opLd` and `opLdImm` with the byte at HL as the destination, whose address the write does not
move. -/
theorem storeAtHl : Obligations.StoreAtHl := by
  unfold Obligations.StoreAtHl
  refine ⟨fun r s => ⟨encodedAs_rowLd .atHl _, ?_⟩, fun n s => ⟨encodedAs_rowLdImm .atHl n, ?_⟩⟩
  · obtain ⟨hvalue, hflags, hframe⟩ := opLd_spec .atHl (.reg r) s
    have hexec := exec_rowLd .atHl (.reg r) (fun h => Opnd8.noConfusion h.2) s
    exact ⟨_, hexec, hvalue, hframe.of_atHl hflags⟩
  · obtain ⟨hvalue, hflags, hframe⟩ := opLdImm_spec .atHl n s
    exact ⟨_, exec_rowLdImm .atHl n s, hvalue, hframe.of_atHl hflags⟩

/-- Settles O5: each is `opLoadA` at its address. -/
theorem accumulatorLoads : Obligations.AccumulatorLoads := by
  unfold Obligations.AccumulatorLoads
  intro s n nn
  rw [← highPage_eq, ← highPage_eq]
  refine ⟨⟨encodedAs_encode rfl, ?bc⟩, ⟨encodedAs_encode rfl, ?de⟩, ⟨encodedAs_encode rfl, ?a16⟩,
    ⟨encodedAs_encode rfl, ?a8⟩, ⟨encodedAs_encode rfl, ?c⟩⟩
  all_goals exact loadsA_of_exec rfl

/-- Settles O6: each is `opStoreA` at its address. -/
theorem accumulatorStores : Obligations.AccumulatorStores := by
  unfold Obligations.AccumulatorStores
  intro s n nn
  rw [← highPage_eq, ← highPage_eq]
  refine ⟨⟨encodedAs_encode rfl, ?bc⟩, ⟨encodedAs_encode rfl, ?de⟩, ⟨encodedAs_encode rfl, ?a16⟩,
    ⟨encodedAs_encode rfl, ?a8⟩, ⟨encodedAs_encode rfl, ?c⟩⟩
  all_goals exact storesA_of_exec rfl

/-- Settles O7: both are `opLoadAThenHl`, with 1 and with -1. -/
theorem loadAccumulatorAndAdjustHl : Obligations.LoadAccumulatorAndAdjustHl := by
  unfold Obligations.LoadAccumulatorAndAdjustHl
  refine ⟨encodedAs_encode rfl, encodedAs_encode rfl, fun s i delta hi => ?_⟩
  rw [← word_add_ofInt]
  obtain ⟨rfl, rfl⟩ | ⟨rfl, rfl⟩ := hi
  · exact ⟨_, rfl, opLoadAThenHl_spec 1 s⟩
  · exact ⟨_, rfl, opLoadAThenHl_spec (-1) s⟩

/-- Settles O8: both are `opStoreAThenHl`, with 1 and with -1. -/
theorem storeAccumulatorAndAdjustHl : Obligations.StoreAccumulatorAndAdjustHl := by
  unfold Obligations.StoreAccumulatorAndAdjustHl
  refine ⟨encodedAs_encode rfl, encodedAs_encode rfl, fun s i delta hi => ?_⟩
  rw [← word_add_ofInt]
  obtain ⟨rfl, rfl⟩ | ⟨rfl, rfl⟩ := hi
  · exact ⟨_, rfl, opStoreAThenHl_spec 1 s⟩
  · exact ⟨_, rfl, opStoreAThenHl_spec (-1) s⟩

/-- Settles O9: `write16` of the operand, whose halves are the two registers of its name. -/
theorem loadSixteenBit : Obligations.LoadSixteenBit := by
  unfold Obligations.LoadSixteenBit
  refine ⟨fun r nn s => ⟨encodedAs_rowLdPair r nn, ?_⟩, fun s => ⟨encodedAs_encode rfl, ?_⟩⟩
  · refine ⟨_, exec_rowLdPair r nn s, onlyReg16_write16 s r nn, State.write16_flags s r nn,
      ?bc, ?de, ?hl, ?sp⟩
    all_goals rintro rfl
    case bc => exact ⟨rfl, rfl⟩
    case de => exact ⟨rfl, rfl⟩
    case hl => exact ⟨rfl, rfl⟩
    case sp => rfl
  · exact ⟨_, rfl, onlyReg16_write16 s .sp (s.pair .hl), rfl, hiByte_wordOf s.h s.l,
      loByte_wordOf s.h s.l⟩

/-- Settles O10: a 16-bit store of SP. -/
theorem storeStackPointer : Obligations.StoreStackPointer := by
  unfold Obligations.StoreStackPointer
  intro nn s
  exact ⟨encodedAs_encode rfl, _, rfl, s.store16_spec nn s.sp⟩

/-- Settles O56: each word is the spelling of its instruction, by the descriptor in its slot (R87). -/
theorem writtenOutWordsDecode : Obligations.WrittenOutWordsDecode := by
  unfold Obligations.WrittenOutWordsDecode
  refine ⟨?ldCD, ?ldED8, ?ldSpD16, ?sbcAAtHl, ?addHlDe, ?pushAf, ?bit7H, ?jrNcE8, ?callA16⟩
  case ldCD | sbcAAtHl | addHlDe | pushAf =>
    exact decode_of_spells (.plain (primaryLookup_of_row rfl)) []
  case ldED8 => exact decode_of_spells (.imm8 (primaryLookup_of_row rfl) 0x7F) []
  case ldSpD16 => exact decode_of_spells (.imm16 (primaryLookup_of_row rfl) 0xFFFE) []
  case bit7H => exact decode_of_spells (.cb rfl) []
  case jrNcE8 => exact decode_of_spells (.imm8 (primaryLookup_of_row rfl) 0xFB) []
  case callA16 => exact decode_of_spells (.imm16 (primaryLookup_of_row rfl) 0x0210) []

end Sys2Proof.Machine
end

section
/-! ### 8-bit arithmetic and logic (spec/42_alu8.md R130 to R144)

Each instruction is the shared operation of its row (`opAlu`, `opInc`, `opDec`), whose value, flags and frame its
`_spec` lemma gives. What is left is what the flag functions say of the two bytes: ADD and SUB are ADC and SBC
without a carry, so H and C of each pair are shown once, for every carry in. -/

namespace Sys2Proof.Machine

/-! #### The rows' encodings -/

/-- R130: `10 kkk zzz` and `11 kkk 110 n`. -/
theorem encodedAs_rowAlu (op : AluOp) (src : AluSrc) :
    EncodedAs (rowAlu op src) (aluBytes op src) := by
  cases src with
  | opnd o => rcases o with ⟨⟨⟩⟩ | _ <;> cases op <;> exact encodedAs_encode rfl
  | imm n => cases op <;> exact encodedAs_encode rfl

/-- R139, R140: `00 yyy 100`. -/
theorem encodedAs_rowInc (o : Opnd8) :
    EncodedAs (rowInc o) [BitVec.ofNat 8 (0x04 + 8 * opndCode o)] := by
  rcases o with ⟨⟨⟩⟩ | _ <;> exact encodedAs_encode rfl

/-- R141, R142: `00 yyy 101`. -/
theorem encodedAs_rowDec (o : Opnd8) :
    EncodedAs (rowDec o) [BitVec.ofNat 8 (0x05 + 8 * opndCode o)] := by
  rcases o with ⟨⟨⟩⟩ | _ <;> exact encodedAs_encode rfl

/-! #### The results and flags of the accumulator operations -/

section
variable (x v : Byte) (cin : Bool)

theorem addResult_false : addResult x v false = x + v := by
  rw [addResult_eq]
  exact BitVec.add_zero (x + v)

theorem subResult_false : subResult x v false = x - v := by
  rw [subResult_eq]
  exact BitVec.sub_zero (x - v)

theorem addFlags_h_iff :
    (addFlags x v cin).h = true ↔ (x &&& 0x0F).toNat + (v &&& 0x0F).toNat + cin.toNat > 0x0F := by
  rw [lowNibble_toNat, lowNibble_toNat, ← b2i_eq_toNat]
  exact decide_eq_true_iff

theorem addFlags_c_iff :
    (addFlags x v cin).c = true ↔ x.toNat + v.toNat + cin.toNat > 0xFF := by
  rw [← b2i_eq_toNat]
  exact decide_eq_true_iff

theorem subFlags_h_iff :
    (subFlags x v cin).h = true ↔ (x &&& 0x0F).toNat < (v &&& 0x0F).toNat + cin.toNat := by
  rw [lowNibble_toNat, lowNibble_toNat, ← b2i_eq_toNat]
  exact decide_eq_true_iff

theorem subFlags_c_iff :
    (subFlags x v cin).c = true ↔ x.toNat < v.toNat + cin.toNat := by
  rw [← b2i_eq_toNat]
  exact decide_eq_true_iff

/-- Without a carry the difference is zero exactly when the bytes are equal (R133, R138). -/
theorem subFlags_z_iff : (subFlags x v false).z = true ↔ x = v := by
  rw [subFlags_z, subResult_false, decide_eq_true_iff]
  exact sub_eq_zero

/-- A byte less itself: zero, and no borrow (R143). -/
theorem subFlags_self : subFlags x x false = { z := true, n := true, h := false, c := false } := by
  have hz : (subFlags x x false).z = true := (subFlags_z_iff x x).mpr rfl
  have hh : (subFlags x x false).h = false := decide_eq_false (Nat.lt_irrefl _)
  have hc : (subFlags x x false).c = false := decide_eq_false (Nat.lt_irrefl _)
  rw [subFlags, Flags.mk.injEq]
  exact ⟨hz, rfl, hh, hc⟩

end

/-- Z of every accumulator operation but CP is the test of what it leaves in A for zero (R131 to R137). -/
theorem opAlu_z {op : AluOp} (hop : op ≠ .cp) (src : AluSrc) (s : State) :
    (opAlu op src s).flags.z = decide ((opAlu op src s).a = 0) := by
  cases op with
  | add | adc => exact addFlags_z _ _ _
  | sub | sbc => exact subFlags_z _ _ _
  | and | xor | or => rfl
  | cp => exact absurd rfl hop

/-! #### The accumulator operations (R131 to R138, R143) -/

/-- Settles O11: the sum without a carry in. -/
theorem addToAccumulator : Obligations.AddToAccumulator := by
  unfold Obligations.AddToAccumulator
  intro src s
  obtain ⟨-, -, hframe⟩ := opAlu_spec .add src s
  exact ⟨encodedAs_rowAlu .add src, _, exec_rowAlu .add src s, addResult_false _ _,
    opAlu_z AluOp.noConfusion src s, rfl, addFlags_h_iff _ _ false, addFlags_c_iff _ _ false, hframe⟩

/-- Settles O12: the sum with the carry flag in. -/
theorem addWithCarryToAccumulator : Obligations.AddWithCarryToAccumulator := by
  unfold Obligations.AddWithCarryToAccumulator
  intro src s
  obtain ⟨-, -, hframe⟩ := opAlu_spec .adc src s
  exact ⟨encodedAs_rowAlu .adc src, _, exec_rowAlu .adc src s, addResult_eq _ _ _,
    opAlu_z AluOp.noConfusion src s, rfl, addFlags_h_iff _ _ _, addFlags_c_iff _ _ _, hframe⟩

/-- Settles O13: the difference without a carry in. -/
theorem subtractFromAccumulator : Obligations.SubtractFromAccumulator := by
  unfold Obligations.SubtractFromAccumulator
  intro src s
  obtain ⟨-, -, hframe⟩ := opAlu_spec .sub src s
  exact ⟨encodedAs_rowAlu .sub src, _, exec_rowAlu .sub src s, subResult_false _ _,
    opAlu_z AluOp.noConfusion src s, rfl, subFlags_h_iff _ _ false, subFlags_c_iff _ _ false, hframe⟩

/-- Settles O14: the difference with the carry flag in. -/
theorem subtractWithCarryFromAccumulator : Obligations.SubtractWithCarryFromAccumulator := by
  unfold Obligations.SubtractWithCarryFromAccumulator
  intro src s
  obtain ⟨-, -, hframe⟩ := opAlu_spec .sbc src s
  exact ⟨encodedAs_rowAlu .sbc src, _, exec_rowAlu .sbc src s, subResult_eq _ _ _,
    opAlu_z AluOp.noConfusion src s, rfl, subFlags_h_iff _ _ _, subFlags_c_iff _ _ _, hframe⟩

/-- Settles O15: the bits of the bitwise operation on A and the operand. -/
theorem logicOnAccumulator : Obligations.LogicOnAccumulator := by
  unfold Obligations.LogicOnAccumulator
  intro src s
  have hframe (op : AluOp) : OnlyAccumulator s (opAlu op src s) := onlyAccumulator_update s _ _
  refine ⟨⟨encodedAs_rowAlu .and src, _, exec_rowAlu .and src s, fun _ _ => ?and, rfl, hframe .and⟩,
    ⟨encodedAs_rowAlu .xor src, _, exec_rowAlu .xor src s, fun _ _ => ?xor, rfl, hframe .xor⟩,
    ⟨encodedAs_rowAlu .or src, _, exec_rowAlu .or src s, fun _ _ => ?or, rfl, hframe .or⟩⟩
  case and => exact BitVec.getLsbD_and
  case xor => exact BitVec.getLsbD_xor
  case or => exact BitVec.getLsbD_or

/-- Settles O16: CP takes its flags from the same `subFlags` as SUB, and leaves A. -/
theorem compareWithAccumulator : Obligations.CompareWithAccumulator := by
  unfold Obligations.CompareWithAccumulator
  intro src s
  obtain ⟨hvalue, hflags, hframe⟩ := opAlu_spec .cp src s
  have hsub : ∃ u, exec (rowAlu .sub src) s = .next u ∧ (opAlu .cp src s).flags = u.flags :=
    ⟨_, exec_rowAlu .sub src s, rfl⟩
  exact ⟨encodedAs_rowAlu .cp src, _, exec_rowAlu .cp src s, hvalue, hsub, subFlags_z_iff _ _, rfl,
    subFlags_h_iff _ _ false, subFlags_c_iff _ _ false, hframe⟩

/-- Settles O19: both are the operation on A with A as its operand. -/
theorem selfSubtraction : Obligations.SelfSubtraction := by
  unfold Obligations.SelfSubtraction
  intro s
  have hzero : subResult s.a s.a false = 0 := (subResult_false s.a s.a).trans (sub_self s.a)
  exact ⟨⟨_, exec_rowAlu .sub (.opnd (.reg .a)) s, hzero, subFlags_self s.a⟩,
    ⟨_, exec_rowAlu .cp (.opnd (.reg .a)) s, rfl, subFlags_self s.a⟩⟩

/-! #### INC and DEC of an operand (R139 to R142, R144) -/

theorem incFlags_z_iff (profile : FlagProfile) (v : Byte) (f : Flags) :
    (incFlags profile v f).z = true ↔ v = 0xFF := by
  exact decide_eq_true_iff.trans eq_sub_iff_add_eq.symm

theorem decFlags_z_iff (v : Byte) (f : Flags) : (decFlags v f).z = true ↔ v = 0x01 := by
  rw [decFlags, decide_eq_true_iff]
  exact sub_eq_zero

/-- Settles O17: `opInc` of the operand; the profile decides N alone. -/
theorem incrementOperand : Obligations.IncrementOperand := by
  unfold Obligations.IncrementOperand
  intro o s
  obtain ⟨hvalue, hflags, hframe⟩ := opInc_spec o s
  refine ⟨encodedAs_rowInc o, _, exec_rowInc o s, ?_, ?_⟩
  · rw [hvalue]
    exact BitVec.toNat_add _ _
  · rw [hflags]
    refine ⟨incFlags_z_iff _ _ _, fun hdoc => ?_, fun hsm83 => ?_, incFlags_h_iff _ _ _, rfl, hframe⟩
    · exact hdoc ▸ rfl
    · exact hsm83 ▸ rfl

/-- Settles O18: `opDec` of the operand. -/
theorem decrementOperand : Obligations.DecrementOperand := by
  unfold Obligations.DecrementOperand
  intro o s
  obtain ⟨hvalue, hflags, hframe⟩ := opDec_spec o s
  refine ⟨encodedAs_rowDec o, _, exec_rowDec o s, ?_, ?_⟩
  · rw [hvalue, decResult, BitVec.sub_eq_add_neg]
    exact BitVec.toNat_add _ _
  · rw [hflags]
    exact ⟨decFlags_z_iff _ _, rfl, decFlags_h_iff _ _, rfl, hframe⟩

/-- Settles O20: the second instruction reads back what the first left in the operand. -/
theorem incrementDecrementRestores : Obligations.IncrementDecrementRestores := by
  unfold Obligations.IncrementDecrementRestores
  intro o s
  refine ⟨⟨_, _, exec_rowInc o s, exec_rowDec o _, ?_⟩, ⟨_, _, exec_rowDec o s, exec_rowInc o _, ?_⟩⟩
  · obtain ⟨hinc, -, -⟩ := opInc_spec o s
    obtain ⟨hdec, -, -⟩ := opDec_spec o (opInc o s)
    rw [hdec, hinc]
    exact BitVec.add_sub_cancel _ _
  · obtain ⟨hdec, -, -⟩ := opDec_spec o s
    obtain ⟨hinc, -, -⟩ := opInc_spec o (opDec o s)
    rw [hinc, hdec]
    exact BitVec.sub_add_cancel _ _

/-! #### Decimal addition (R131, R248, spec/95_test_vectors.md section 4)

Two BCD bytes of digits a, b and c, d have the binary sum 16 t + u and the decimal sum 10 t + u, where t = a + c and
u = b + d are at most 18. DAA's two tests on the binary sum are the two decimal carries, and its two adjustments
carry them out. -/

/-- DAA's test for the tens: the carry out of the byte, or a sum above 0x99. -/
theorem tensTest_iff {u : Nat} (t : Nat) (hu : u ≤ 18) :
    16 * t + u > 0xFF ∨ (16 * t + u) % 256 > 0x99 ↔ 10 * t + u ≥ 100 := by
  by_cases hwrap : 16 * t + u > 0xFF
  · exact iff_of_true (.inl hwrap) (by omega)
  · rw [Nat.mod_eq_of_lt (by omega)]
    omega

/-- DAA's test for the units: the carry out of the low digit, or a low digit above 9. -/
theorem unitsTest_iff {u : Nat} (t : Nat) (hu : u ≤ 18) :
    u > 0x0F ∨ (16 * t + u) % 256 % 16 > 0x09 ↔ u ≥ 10 := by
  omega

theorem decimalSum_units {u : Nat} (t : Nat) (hu : u ≤ 18) :
    (10 * t + u) % 10 = if u ≥ 10 then u - 10 else u := by
  split <;> omega

theorem decimalSum_tens {t u : Nat} (ht : t ≤ 18) (hu : u ≤ 18) :
    (10 * t + u) % 100 / 10 + (if 10 * t + u ≥ 100 then 10 else 0) =
      t + (if u ≥ 10 then 1 else 0) := by
  split <;> split <;> omega

/-- The binary sum with the adjustments holds the two last digits of the decimal sum. -/
theorem adjustedSum_eq {t u : Nat} (ht : t ≤ 18) (hu : u ≤ 18) :
    (16 * t + u + (if 10 * t + u ≥ 100 then 0x60 else 0x00) + (if u ≥ 10 then 0x06 else 0x00)) % 256 =
      16 * ((10 * t + u) % 100 / 10) + (10 * t + u) % 10 := by
  have hunits := decimalSum_units t hu
  have htens := decimalSum_tens ht hu
  generalize (10 * t + u) % 100 / 10 = tens at htens ⊢
  generalize (10 * t + u) % 10 = units at hunits ⊢
  split_ifs at hunits htens ⊢ <;> omega

/-- The byte that holds the decimal digits `tens` and `units`. -/
def bcd (tens units : Nat) : Byte := BitVec.ofNat 8 (tens * 16 + units)

theorem bcd_toNat {tens units : Nat} (ht : tens ≤ 9) (hu : units ≤ 9) :
    (bcd tens units).toNat = 16 * tens + units := by
  rw [bcd, BitVec.toNat_ofNat]
  omega

theorem bcd_lowNibble {tens units : Nat} (ht : tens ≤ 9) (hu : units ≤ 9) :
    (bcd tens units &&& 0x0F).toNat = units := by
  rw [lowNibble_toNat, bcd_toNat ht hu]
  omega

section
variable {a b c d : Nat} (ha : a ≤ 9) (hb : b ≤ 9) (hc : c ≤ 9) (hd : d ≤ 9)
include ha hb hc hd

theorem addResult_bcd_toNat :
    (addResult (bcd a b) (bcd c d) false).toNat = (16 * (a + c) + (b + d)) % 256 := by
  rw [addResult_false, BitVec.toNat_add, bcd_toNat ha hb, bcd_toNat hc hd, Nat.mul_add,
    Nat.add_add_add_comm]

theorem daaHighFix_bcd :
    daaHighFix (addResult (bcd a b) (bcd c d) false) (addFlags (bcd a b) (bcd c d) false) =
      decide (10 * (a + c) + (b + d) ≥ 100) := by
  have hsum : 16 * a + b + (16 * c + d) = 16 * (a + c) + (b + d) := by omega
  rw [Bool.eq_iff_iff, daaHighFix, Bool.or_eq_true, addFlags_c_iff, decide_eq_true_iff,
    decide_eq_true_iff, addResult_bcd_toNat ha hb hc hd, bcd_toNat ha hb, bcd_toNat hc hd, hsum]
  exact tensTest_iff (a + c) (Nat.add_le_add hb hd)

theorem daaLowFix_bcd :
    daaLowFix (addResult (bcd a b) (bcd c d) false) (addFlags (bcd a b) (bcd c d) false) =
      decide (b + d ≥ 10) := by
  rw [Bool.eq_iff_iff, daaLowFix, Bool.or_eq_true, addFlags_h_iff, bcd_lowNibble ha hb,
    bcd_lowNibble hc hd, decide_eq_true_iff, decide_eq_true_iff, addResult_bcd_toNat ha hb hc hd]
  exact unitsTest_iff (a + c) (Nat.add_le_add hb hd)

/-- DAA turns the binary sum of two BCD bytes into the BCD of their decimal sum mod 100 (R248). -/
theorem daaResult_bcd :
    daaResult (addResult (bcd a b) (bcd c d) false) (addFlags (bcd a b) (bcd c d) false) =
      bcd ((10 * (a + c) + (b + d)) % 100 / 10) ((10 * (a + c) + (b + d)) % 10) := by
  have htens : (10 * (a + c) + (b + d)) % 100 / 10 ≤ 9 := by omega
  have hunits : (10 * (a + c) + (b + d)) % 10 ≤ 9 := by omega
  rw [daaResult_add rfl, daaHighFix_bcd ha hb hc hd, daaLowFix_bcd ha hb hc hd, ← BitVec.toNat_inj,
    bcd_toNat htens hunits, ← adjustedSum_eq (Nat.add_le_add ha hc) (Nat.add_le_add hb hd)]
  simp only [BitVec.toNat_add, addResult_bcd_toNat ha hb hc hd, decide_eq_true_iff,
    apply_ite BitVec.toNat, Nat.reducePow, Nat.mod_add_mod, BitVec.reduceToNat]

end

/-- Settles O39: ADD leaves the binary sum of the two BCD bytes, which DAA adjusts. -/
theorem decimalAdditionIsCorrect : Obligations.DecimalAdditionIsCorrect := by
  unfold Obligations.DecimalAdditionIsCorrect
  intro x y s hx hy ha
  have hxt : x / 10 ≤ 9 := by omega
  have hyt : y / 10 ≤ 9 := by omega
  have hxu : x % 10 ≤ 9 := by omega
  have hyu : y % 10 ≤ 9 := by omega
  have hsum : x + y = 10 * (x / 10 + y / 10) + (x % 10 + y % 10) := by omega
  have hbcd : s.a = bcd (x / 10) (x % 10) := ha
  have hresult := daaResult_bcd hxt hxu hyt hyu
  have hcarry := daaHighFix_bcd hxt hxu hyt hyu
  rw [← hbcd, ← hsum] at hresult hcarry
  exact ⟨_, _, exec_rowAlu .add (.imm (bcd (y / 10) (y % 10))) s, rfl, hresult,
    (Bool.eq_iff_iff.mp hcarry).trans decide_eq_true_iff⟩

end Sys2Proof.Machine
end

section
/-! ### 16-bit arithmetic (spec/43_arith16.md R160 to R165)

Each instruction writes one 16-bit operand, and ADD HL,rr and `SPE` write the flags as well, so the frame is
`write16`'s. Under DOC, H and C of `SPE` are those of ADD HL,rr with the sign-extended immediate (R161). -/

namespace Sys2Proof.Machine

/-! #### The rows' encodings -/

/-- R160: `00 pp 1001`. -/
theorem encodedAs_rowAddHl (r : Reg16) :
    EncodedAs (rowAddHl r) [BitVec.ofNat 8 (0x09 + 16 * reg16Code r)] := by
  cases r <;> exact encodedAs_encode rfl

/-- R164: `00 pp 0011`. -/
theorem encodedAs_rowIncPair (r : Reg16) :
    EncodedAs (rowIncPair r) [BitVec.ofNat 8 (0x03 + 16 * reg16Code r)] := by
  cases r <;> exact encodedAs_encode rfl

/-- R165: `00 pp 1011`. -/
theorem encodedAs_rowDecPair (r : Reg16) :
    EncodedAs (rowDecPair r) [BitVec.ofNat 8 (0x0B + 16 * reg16Code r)] := by
  cases r <;> exact encodedAs_encode rfl

/-! #### A 16-bit operand and the flags -/

/-- The flags do not change what a 16-bit operand reads as. -/
@[simp] theorem State.setFlags_read16 (s : State) (f : Flags) (r : Reg16) :
    (s.setFlags f).read16 r = s.read16 r := by
  cases r <;> rfl

/-- The frame of a 16-bit operand says nothing of the flags. -/
theorem OnlyReg16.setFlags {r : Reg16} {v : Word} {s t : State} (h : OnlyReg16 r v s t)
    (f : Flags) : OnlyReg16 r v s (t.setFlags f) := by
  obtain ⟨hvalue, hregs, hsp, hpc, hmem, hcontrol⟩ := h
  exact ⟨(State.setFlags_read16 t f r).trans hvalue,
    fun x hx => (State.setFlags_reg8 t f x).trans (hregs x hx), hsp, hpc, hmem, hcontrol⟩

/-- `opAddHl`: HL and the flags are ADD HL,rr's; nothing else changes (R160). -/
theorem opAddHl_spec (r : Reg16) (s : State) :
    (opAddHl r s).flags = addHlFlags (s.pair .hl) (s.read16 r) s.flags ∧
      OnlyReg16 .hl (s.pair .hl + s.read16 r) s (opAddHl r s) :=
  ⟨rfl, (onlyReg16_write16 s .hl _).setFlags _⟩

/-- R162, R163: both instructions write `SPE` to their operand, and its flags. -/
theorem exec_spe {i : Instr} {r : Reg16} {e8 : Byte}
    (h : (i = .addSpE8 e8 ∧ r = .sp) ∨ (i = .ldHlSpE8 e8 ∧ r = .hl)) (s : State) :
    exec i s = .next ((s.write16 r (speResult s.sp e8)).setFlags
      (speFlags s.config.flagProfile s.sp e8)) := by
  obtain ⟨rfl, rfl⟩ | ⟨rfl, rfl⟩ := h <;> rfl

/-! #### The flags of 16-bit sums (R160, R161) -/

section
variable (x v : Word) (f : Flags) (e8 : Byte)

theorem addHlFlags_h_iff :
    (addHlFlags x v f).h = true ↔ (x &&& 0x0FFF).toNat + (v &&& 0x0FFF).toNat > 0x0FFF := by
  rw [low12_toNat, low12_toNat]
  exact decide_eq_true_iff

theorem addHlFlags_c_iff : (addHlFlags x v f).c = true ↔ x.toNat + v.toNat > 0xFFFF :=
  decide_eq_true_iff

/-- DOC takes the carries of the 16-bit sum, as ADD HL,rr does. -/
theorem speFlags_doc : speFlags .doc x e8 = { addHlFlags x (sext16 e8) f with z := false } := rfl

theorem speFlags_sm83_h_iff :
    (speFlags .sm83 x e8).h = true ↔ (x &&& 0x0F).toNat + (e8 &&& 0x0F).toNat > 0x0F := by
  rw [low4_toNat, lowNibble_toNat]
  exact decide_eq_true_iff

theorem speFlags_sm83_c_iff :
    (speFlags .sm83 x e8).c = true ↔ (x &&& 0xFF).toNat + e8.toNat > 0xFF := by
  rw [low8_toNat]
  exact decide_eq_true_iff

/-- Z and N are cleared under both profiles. -/
theorem speFlags_z_n (profile : FlagProfile) :
    (speFlags profile x e8).z = false ∧ (speFlags profile x e8).n = false := by
  cases profile <;> exact ⟨rfl, rfl⟩

end

/-! #### The statements -/

/-- Settles O21: `opAddHl` of the operand. -/
theorem addToHl : Obligations.AddToHl := by
  unfold Obligations.AddToHl
  intro r s
  obtain ⟨hflags, hframe⟩ := opAddHl_spec r s
  refine ⟨encodedAs_rowAddHl r, _, exec_rowAddHl r s, hframe, ?_⟩
  rw [hflags]
  exact ⟨rfl, rfl, addHlFlags_h_iff _ _ _, addHlFlags_c_iff _ _ _⟩

/-- Settles O22: both write the same sum with the same flags, ADD to SP and LD to HL. -/
theorem signedAdditionToStackPointer : Obligations.SignedAdditionToStackPointer := by
  unfold Obligations.SignedAdditionToStackPointer
  intro e8 s i r hi
  rw [← word_add_sext16]
  obtain ⟨hz, hn⟩ := speFlags_z_n s.sp e8 s.config.flagProfile
  refine ⟨encodedAs_encode rfl, encodedAs_encode rfl, _, exec_spe hi s,
    (onlyReg16_write16 s r _).setFlags _, hz, hn, fun hdoc => ?doc, fun hsm83 => ?sm83⟩
  case doc =>
    rw [State.setFlags_flags, hdoc, speFlags_doc s.sp s.flags e8]
    exact ⟨addHlFlags_h_iff _ _ s.flags, addHlFlags_c_iff _ _ s.flags⟩
  case sm83 =>
    rw [State.setFlags_flags, hsm83]
    exact ⟨speFlags_sm83_h_iff _ _, speFlags_sm83_c_iff _ _⟩

/-- Settles O23: `write16` of the operand's value plus 1, or less 1, which mod 65536 is plus 65535. -/
theorem incrementDecrementPair : Obligations.IncrementDecrementPair := by
  unfold Obligations.IncrementDecrementPair
  intro r s
  have hinc : s.read16 r + 1 = BitVec.ofNat 16 ((s.read16 r).toNat + 1) := by bv_omega
  have hdec : s.read16 r - 1 = BitVec.ofNat 16 ((s.read16 r).toNat + 65535) := by bv_omega
  rw [← hinc, ← hdec]
  exact ⟨⟨encodedAs_rowIncPair r, _, exec_rowIncPair r s, onlyReg16_write16 s r _,
      State.write16_flags s r _⟩,
    ⟨encodedAs_rowDecPair r, _, exec_rowDecPair r s, onlyReg16_write16 s r _,
      State.write16_flags s r _⟩⟩

end Sys2Proof.Machine
end

section
/-! ### The stack (spec/44_stack.md R180 to R184)

PUSH is `push16` of the pair; POP drops the word on top and writes it to the pair. A pair written with what it
reads as changes nothing, so a POP of what the same pair pushed only moves SP back (R184). -/

namespace Sys2Proof.Machine

/-! #### The rows' encodings -/

/-- R182: `11 pp 0101`. -/
theorem encodedAs_rowPush (p : Pair) :
    EncodedAs (rowPush p) [BitVec.ofNat 8 (0xC5 + 16 * pairCode p)] := by
  cases p <;> exact encodedAs_encode rfl

/-- R183: `11 pp 0001`. -/
theorem encodedAs_rowPop (p : Pair) :
    EncodedAs (rowPop p) [BitVec.ofNat 8 (0xC1 + 16 * pairCode p)] := by
  cases p <;> exact encodedAs_encode rfl

/-! #### The bits of F (R22) -/

theorem State.flagByte_getLsbD_low (s : State) {k : Nat} (hk : k < 4) :
    s.flagByte.getLsbD k = false := by
  have hshift : s.flagByte.toNat = 2 ^ 4 *
      (s.flags.z.toNat * 8 + s.flags.n.toNat * 4 + s.flags.h.toNat * 2 + s.flags.c.toNat) := by
    rw [State.flagByte_toNat]
    omega
  rw [BitVec.getLsbD, hshift, Nat.testBit_two_pow_mul, decide_eq_false (by omega), Bool.false_and]

/-- The upper nibble is what writing F back gives the flags (R23). -/
theorem State.flagByte_getLsbD (s : State) {k : Nat} (hk : k < 8) :
    s.flagByte.getLsbD k =
      if k = 7 then s.flags.z else if k = 6 then s.flags.n else if k = 5 then s.flags.h
      else if k = 4 then s.flags.c else false := by
  have hflags := flagsOfByte_flagByte s
  match k, hk with
  | 7, _ => exact congrArg Flags.z hflags
  | 6, _ => exact congrArg Flags.n hflags
  | 5, _ => exact congrArg Flags.h hflags
  | 4, _ => exact congrArg Flags.c hflags
  | 3, _ | 2, _ | 1, _ | 0, _ => exact s.flagByte_getLsbD_low (by decide)

/-! #### Push and pop -/

/-- `Push16`: the two halves below the old SP; nothing but SP and these two bytes changes (R180). -/
theorem State.push16_spec (v : Word) (s : State) :
    (s.push16 v).load (s.sp - 1) = hiByte v ∧ (s.push16 v).load (s.sp - 2) = loByte v ∧
      SameMemoryBut (fun k => k = s.sp - 1 ∨ k = s.sp - 2) s (s.push16 v) ∧
      SameRegs s (s.push16 v) ∧ (s.push16 v).flags = s.flags ∧ (s.push16 v).pc = s.pc ∧
      SameControl s (s.push16 v) := by
  refine ⟨?high, ?low, fun k hk => ?mem, State.push16_reg8 s v, rfl, rfl, rfl, rfl, rfl, rfl, rfl⟩
  case high => rw [State.load_push16, if_neg (sub_one_ne_sub_two s.sp), if_pos rfl]
  case low => rw [State.load_push16, if_pos rfl]
  case mem =>
    rw [not_or] at hk
    rw [State.load_push16, if_neg hk.2, if_neg hk.1]

@[simp] theorem State.hiByte_top16 (s : State) : hiByte s.top16 = s.load (s.sp + 1) :=
  hiByte_wordOf _ _

@[simp] theorem State.loByte_top16 (s : State) : loByte s.top16 = s.load s.sp :=
  loByte_wordOf _ _

/-- R26: the high half is kept whole, also of AF. -/
theorem State.hiByte_pair_setPair (s : State) (p : Pair) (v : Word) :
    hiByte ((s.setPair p v).pair p) = hiByte v := by
  cases p <;> exact hiByte_wordOf _ _

/-- R25, R26: a pair written with what it reads as changes nothing; for AF because F reads as the flags. -/
@[simp] theorem State.setPair_pair_self (s : State) (p : Pair) : s.setPair p (s.pair p) = s := by
  cases p <;> simp [State.setPair, State.pair]

/-- R184: after the PUSH of a pair, its POP moves SP and changes nothing else. -/
theorem exec_rowPop_push16 (p : Pair) (s : State) :
    exec (rowPop p) (s.push16 (s.pair p)) = .next (s.push16 (s.pair p)).drop16 := by
  have hself := State.setPair_pair_self (s.push16 (s.pair p)).drop16 p
  rw [State.drop16_pair, State.push16_pair] at hself
  rw [exec_rowPop, State.top16_push16, hself]

/-! #### The statements -/

/-- Settles O24: `push16` of the pair, whose halves are the two registers of its name, or A and F. -/
theorem pushPair : Obligations.PushPair := by
  unfold Obligations.PushPair
  intro p s
  obtain ⟨hhigh, hlow, hframe⟩ := s.push16_spec (s.pair p)
  refine ⟨encodedAs_rowPush p, _, exec_rowPush p s, rfl, hhigh, hlow, ?bc, ?de, ?hl, ?a, ?f, hframe⟩
  all_goals rintro rfl
  case bc => exact ⟨hiByte_wordOf s.b s.c, loByte_wordOf s.b s.c⟩
  case de => exact ⟨hiByte_wordOf s.d s.e, loByte_wordOf s.d s.e⟩
  case hl => exact ⟨hiByte_wordOf s.h s.l, loByte_wordOf s.h s.l⟩
  case a => exact hiByte_wordOf s.a s.flagByte
  case f =>
    intro k hk
    rw [State.pair, loByte_wordOf]
    exact s.flagByte_getLsbD hk

/-- Settles O25: the word on top written to the pair; AF's low half goes to the flags (R23). -/
theorem popPair : Obligations.PopPair := by
  unfold Obligations.PopPair
  intro p s
  have hregs : SameRegsBut (HalfOf p) s (s.drop16.setPair p s.top16) := fun r hr =>
    (State.setPair_reg8_other hr s.drop16 s.top16).trans (State.drop16_reg8 s r)
  refine ⟨encodedAs_rowPop p, _, exec_rowPop p s, State.setPair_sp _ p _, ?high, ?low, ?bc, ?de,
    ?hl, ?a, ?flags, hregs, State.setPair_pc _ p _, State.setPair_load _ p _, ?control⟩
  case high => rw [State.hiByte_pair_setPair, State.hiByte_top16]
  case low =>
    intro hp
    rw [State.pair_setPair hp, State.loByte_top16]
    exact ⟨rfl, State.setPair_flags hp _ _⟩
  case control => simp [SameControl]
  all_goals rintro rfl
  case bc | de | hl => exact ⟨s.hiByte_top16, s.loByte_top16⟩
  case a => exact s.hiByte_top16
  case flags =>
    rw [State.setPair_af_flags, State.loByte_top16]
    rfl

/-- Settles O26: the POP undoes all of the PUSH but the two bytes in memory. -/
theorem stackRoundTrip : Obligations.StackRoundTrip := by
  unfold Obligations.StackRoundTrip
  intro p s
  obtain ⟨hhigh, hlow, -, hregs, hflags, -⟩ := s.push16_spec (s.pair p)
  refine ⟨_, _, exec_rowPush p s, exec_rowPop_push16 p s, ?pair, ?regs, hflags,
    sub_two_add_two s.sp, hhigh, hlow⟩
  case pair => rw [State.drop16_pair, State.push16_pair]
  case regs => exact fun r => (State.drop16_reg8 _ r).trans (hregs r)

end Sys2Proof.Machine
end

section
/-! ### Rotates, shifts and bits (spec/45_rotate_bit.md R190 to R206)

Each instruction is the shared operation of its row (`opAccRotate`, `opShift`, `opBit`, `opRes`, `opSet`), whose
value, flags and frame its `_spec` lemma gives; `shiftResult_eq` gives the results as operations on bit vectors. The
encodings come from the CB table itself: the fields of `xx yyy zzz` select the row (R90). -/

namespace Sys2Proof.Machine

/-! #### The rows' encodings -/

/-- R71: the fields of `xx yyy zzz`. -/
theorem fields_ofNat {x y z : Nat} (hx : x < 4) (hy : y < 8) (hz : z < 8) :
    fieldX (BitVec.ofNat 8 (64 * x + 8 * y + z)) = x ∧
      fieldY (BitVec.ofNat 8 (64 * x + 8 * y + z)) = y ∧
      fieldZ (BitVec.ofNat 8 (64 * x + 8 * y + z)) = z := by
  simp only [fieldX, fieldY, fieldZ, BitVec.toNat_ofNat]
  omega

theorem opndCode_lt (o : Opnd8) : opndCode o < 8 := by
  rcases o with ⟨⟨⟩⟩ | _ <;> decide

@[simp] theorem opndOfCode_opndCode (o : Opnd8) : opndOfCode (opndCode o) = o := by
  rcases o with ⟨⟨⟩⟩ | _ <;> rfl

theorem shiftCode_lt (op : ShiftOp) : shiftCode op < 8 := by
  cases op <;> decide

@[simp] theorem shiftOfCode_shiftCode (op : ShiftOp) : shiftOfCode (shiftCode op) = op := by
  cases op <;> rfl

/-- The row that the fields of `xx yyy zzz` select stands in memory as 0xCB and that byte (R86, R90). -/
theorem encodedAs_cbRow {x y : Nat} {i : Instr} (hx : x < 4) (hy : y < 8) (o : Opnd8)
    (hrow : ∀ op2, fieldX op2 = x → fieldY op2 = y → opndOfCode (fieldZ op2) = o → cbLookup op2 = i) :
    EncodedAs i [0xCB, BitVec.ofNat 8 (64 * x + 8 * y + opndCode o)] := by
  obtain ⟨hfx, hfy, hfz⟩ := fields_ofNat hx hy (opndCode_lt o)
  have hspells := Spells.cb (hrow _ hfx hfy (by rw [hfz, opndOfCode_opndCode]))
  exact ⟨encode_of_spells hspells, fun rest => ⟨_, decode_of_spells hspells rest⟩⟩

/-- R196 to R203: `0xCB 00 yyy zzz`. -/
theorem encodedAs_rowShift (op : ShiftOp) (o : Opnd8) :
    EncodedAs (rowShift op o) [0xCB, BitVec.ofNat 8 (64 * 0 + 8 * shiftCode op + opndCode o)] :=
  encodedAs_cbRow (by decide) (shiftCode_lt op) o fun op2 hx hy ho => by
    simp only [cbLookup, hx, hy, ho, shiftOfCode_shiftCode]

/-- R204: `0xCB 01 bbb zzz`. -/
theorem encodedAs_rowBit (y : Fin 8) (o : Opnd8) :
    EncodedAs (rowBit y o) [0xCB, BitVec.ofNat 8 (64 * 1 + 8 * y.val + opndCode o)] :=
  encodedAs_cbRow (by decide) y.isLt o fun op2 hx hy ho => by
    simp only [cbLookup, indexY, hx, hy, ho, Fin.ofNat_val_eq_self]

/-- R205: `0xCB 10 bbb zzz`. -/
theorem encodedAs_rowRes (y : Fin 8) (o : Opnd8) :
    EncodedAs (rowRes y o) [0xCB, BitVec.ofNat 8 (64 * 2 + 8 * y.val + opndCode o)] :=
  encodedAs_cbRow (by decide) y.isLt o fun op2 hx hy ho => by
    simp only [cbLookup, indexY, hx, hy, ho, Fin.ofNat_val_eq_self]

/-- R206: `0xCB 11 bbb zzz`. -/
theorem encodedAs_rowSet (y : Fin 8) (o : Opnd8) :
    EncodedAs (rowSet y o) [0xCB, BitVec.ofNat 8 (64 * 3 + 8 * y.val + opndCode o)] :=
  encodedAs_cbRow (by decide) y.isLt o fun op2 hx hy ho => by
    simp only [cbLookup, indexY, hx, hy, ho, Fin.ofNat_val_eq_self]

/-! #### The shared operations -/

/-- `opAccRotate`: A and the flags are the rotate's; nothing else changes (R191 to R194). -/
theorem opAccRotate_spec (op : ShiftOp) (s : State) :
    (opAccRotate op s).a = shiftResult op s.a s.flags.c ∧
      (opAccRotate op s).flags = accRotateFlags op s.a ∧ OnlyAccumulator s (opAccRotate op s) :=
  ⟨rfl, rfl, onlyAccumulator_update _ _ _⟩

/-- `opBit`: the flags are those of BIT; nothing else changes (R204). -/
theorem opBit_spec (y : Fin 8) (o : Opnd8) (s : State) :
    (opBit y o s).flags = bitFlags y (s.read8 o) s.flags ∧ SameRegs s (opBit y o s) ∧
      SameMemory s (opBit y o s) ∧ (opBit y o s).sp = s.sp ∧ (opBit y o s).pc = s.pc ∧
      SameControl s (opBit y o s) :=
  ⟨rfl, State.setFlags_reg8 s _, fun _ => rfl, rfl, rfl, rfl, rfl, rfl, rfl, rfl⟩

section
variable {op : ShiftOp} {s : State} {res : Byte}

theorem rotatesA_of_exec {i : Instr} (hexec : exec i s = .next (opAccRotate op s))
    (hres : shiftResult op s.a s.flags.c = res) : RotatesA i res (shiftCarry op s.a) s := by
  subst hres
  exact ⟨_, hexec, opAccRotate_spec op s⟩

theorem shiftsTo_rowShift {o : Opnd8} (hres : shiftResult op (s.read8 o) s.flags.c = res) :
    ShiftsTo (rowShift op o) o res (shiftCarry op (s.read8 o)) s := by
  subst hres
  exact ⟨_, exec_rowShift op o s, opShift_spec op o s⟩

end

/-! #### The statements -/

/-- Settles O27: `opAccRotate`, whose flags have Z cleared whatever the result. -/
theorem rotateAccumulator : Obligations.RotateAccumulator := by
  unfold Obligations.RotateAccumulator
  intro s
  refine ⟨⟨encodedAs_encode rfl, ?rlca⟩, ⟨encodedAs_encode rfl, ?rrca⟩, ⟨encodedAs_encode rfl, ?rla⟩,
    ⟨encodedAs_encode rfl, ?rra⟩⟩
  case rlca => exact rotatesA_of_exec rfl (shiftResult_eq .rlc _ _)
  case rrca => exact rotatesA_of_exec rfl (shiftResult_eq .rrc _ _)
  case rla => exact rotatesA_of_exec rfl (shiftResult_eq .rl _ _)
  case rra => exact rotatesA_of_exec rfl (shiftResult_eq .rr _ _)

/-- Settles O28: `opShift` with the operations of codes 0 to 3. -/
theorem rotateOperand : Obligations.RotateOperand := by
  unfold Obligations.RotateOperand
  intro o s
  exact ⟨⟨encodedAs_rowShift .rlc o, shiftsTo_rowShift (shiftResult_eq .rlc _ _)⟩,
    ⟨encodedAs_rowShift .rrc o, shiftsTo_rowShift (shiftResult_eq .rrc _ _)⟩,
    ⟨encodedAs_rowShift .rl o, shiftsTo_rowShift (shiftResult_eq .rl _ _)⟩,
    ⟨encodedAs_rowShift .rr o, shiftsTo_rowShift (shiftResult_eq .rr _ _)⟩⟩

/-- Settles O29: `opShift` with the operations of codes 4 to 7. -/
theorem shiftOperand : Obligations.ShiftOperand := by
  unfold Obligations.ShiftOperand
  intro o s
  exact ⟨⟨encodedAs_rowShift .sla o, shiftsTo_rowShift (shiftResult_eq .sla _ _)⟩,
    ⟨encodedAs_rowShift .sra o, shiftsTo_rowShift (shiftResult_eq .sra _ _)⟩,
    ⟨encodedAs_rowShift .swap o, shiftsTo_rowShift (shiftResult_eq .swap _ _)⟩,
    ⟨encodedAs_rowShift .srl o, shiftsTo_rowShift (shiftResult_eq .srl _ _)⟩⟩

/-- Settles O30: `opBit` writes the flags alone. -/
theorem testBit : Obligations.TestBit := by
  unfold Obligations.TestBit
  intro y o s
  exact ⟨encodedAs_rowBit y o, _, exec_rowBit y o s, opBit_spec y o s⟩

/-- Settles O31: the operand with the mask of bit b taken out, or put in. -/
theorem clearAndSetBit : Obligations.ClearAndSetBit := by
  unfold Obligations.ClearAndSetBit
  intro y o s
  obtain ⟨hres, hresFrame⟩ := opRes_spec y o s
  obtain ⟨hset, hsetFrame⟩ := opSet_spec y o s
  refine ⟨⟨encodedAs_rowRes y o, _, exec_rowRes y o s, fun k hk => ?res, hresFrame⟩,
    ⟨encodedAs_rowSet y o, _, exec_rowSet y o s, fun k hk => ?set, hsetFrame⟩⟩
  case res => rw [hres, getLsbD_and_not_bitMask _ _ hk]
  case set => rw [hset, getLsbD_or_bitMask _ _ hk]

end Sys2Proof.Machine
end

section
/-! ### Control flow (spec/46_control.md R220 to R231)

A conditional instruction runs its unconditional counterpart when the condition holds and leaves the state alone
when it does not; the two lemmas on `if condHolds …` read this off `exec` for jumps, calls and returns alike. The
effects are those of `setPc`, `opCall` and `opRet`. -/

namespace Sys2Proof.Machine

/-! #### The rows' encodings -/

/-- R222: `110 cc 010 lo hi`. -/
theorem encodedAs_rowJp (cc : Cond) (nn : Word) :
    EncodedAs (rowJp cc nn) [BitVec.ofNat 8 (0xC2 + 8 * condCode cc), loByte nn, hiByte nn] := by
  cases cc <;> exact encodedAs_encode rfl

/-- R225: `001 cc 000 e`. -/
theorem encodedAs_rowJr (cc : Cond) (e8 : Byte) :
    EncodedAs (rowJr cc e8) [BitVec.ofNat 8 (0x20 + 8 * condCode cc), e8] := by
  cases cc <;> exact encodedAs_encode rfl

/-- R227: `110 cc 100 lo hi`. -/
theorem encodedAs_rowCall (cc : Cond) (nn : Word) :
    EncodedAs (rowCall cc nn)
      [BitVec.ofNat 8 (0xC4 + 8 * condCode cc), loByte nn, hiByte nn] := by
  cases cc <;> exact encodedAs_encode rfl

/-- R229: `110 cc 000`. -/
theorem encodedAs_rowRet (cc : Cond) :
    EncodedAs (rowRet cc) [BitVec.ofNat 8 (0xC0 + 8 * condCode cc)] := by
  cases cc <;> exact encodedAs_encode rfl

/-- R231: `11 yyy 111`. -/
theorem encodedAs_rowRst (y : Fin 8) :
    EncodedAs (rowRst y) [BitVec.ofNat 8 (0xC7 + 8 * y.val)] := by
  match y with
  | 0 | 1 | 2 | 3 | 4 | 5 | 6 | 7 => exact encodedAs_encode rfl

/-! #### Taken and not taken (R220) -/

section
variable {i : Instr} {cc : Cond} {s t : State}
  (hexec : exec i s = .next (if condHolds cc s.flags then t else s))
include hexec

theorem exec_taken (h : CondTrue cc s.flags) : exec i s = .next t := by
  rw [hexec, if_pos ((condHolds_iff cc s.flags).mpr h)]

theorem jumpsTo_next_of_not_taken (h : ¬CondTrue cc s.flags) : JumpsTo i s.pc s := by
  rw [← condHolds_iff] at h
  exact ⟨s, by rw [hexec, if_neg h], rfl, onlyPc_self s⟩

end

/-! #### The shared operations -/

section
variable {i : Instr} {s : State}

theorem jumpsTo_of_exec_setPc {target : Word} (hexec : exec i s = .next (s.setPc target)) :
    JumpsTo i target s :=
  ⟨_, hexec, State.setPc_pc s target, onlyPc_setPc s target⟩

/-- R224: the sign-extended displacement adds as a signed number mod 65536. -/
theorem jumpsTo_of_exec_opJr {e8 : Byte} (hexec : exec i s = .next (opJr e8 s)) :
    JumpsTo i (BitVec.ofInt 16 (s.pc.toNat + e8.toInt)) s := by
  rw [← word_add_sext16]
  exact jumpsTo_of_exec_setPc hexec

theorem callsTo_of_exec_opCall {target : Word} (hexec : exec i s = .next (opCall target s)) :
    CallsTo i target s :=
  ⟨_, hexec, opCall_spec target s⟩

end

/-- R231: t = 8 y. -/
theorem rstTarget_eq (y : Fin 8) : rstTarget y = BitVec.ofNat 16 (8 * y.val) := by
  rw [rstTarget, Nat.mul_comm]

/-- IME is no register, flag or byte of memory (R29). -/
theorem ReturnedTo.setIme {s t : State} (h : ReturnedTo s t) (b : Bool) :
    ReturnedTo s { t with ime := b } :=
  h

/-! #### The statements -/

/-- Settles O32: each of the three writes its target to PC. -/
theorem unconditionalJumps : Obligations.UnconditionalJumps := by
  unfold Obligations.UnconditionalJumps
  intro nn e8 s
  exact ⟨⟨encodedAs_encode rfl, jumpsTo_of_exec_setPc rfl⟩,
    ⟨encodedAs_encode rfl, jumpsTo_of_exec_setPc rfl⟩,
    ⟨encodedAs_encode rfl, jumpsTo_of_exec_opJr rfl⟩⟩

/-- Settles O33: taken, the unconditional jump; not taken, nothing. -/
theorem conditionalJumps : Obligations.ConditionalJumps := by
  unfold Obligations.ConditionalJumps
  intro cc nn e8 s
  have hjp := exec_rowJp cc nn s
  have hjr := exec_rowJr cc e8 s
  refine ⟨encodedAs_rowJp cc nn, encodedAs_rowJr cc e8, fun h => ?taken, fun h => ?notTaken⟩
  case taken =>
    exact ⟨jumpsTo_of_exec_setPc (exec_taken hjp h), jumpsTo_of_exec_opJr (exec_taken hjr h)⟩
  case notTaken =>
    exact ⟨jumpsTo_next_of_not_taken hjp h, jumpsTo_next_of_not_taken hjr h⟩

/-- Settles O34: `opCall` of the target, which for RST is 8 y; a CALL not taken does nothing. -/
theorem calls : Obligations.Calls := by
  unfold Obligations.Calls
  refine ⟨fun nn y s => ⟨⟨encodedAs_encode rfl, callsTo_of_exec_opCall rfl⟩,
    encodedAs_rowRst y, ?rst⟩,
    fun cc nn s => ⟨encodedAs_rowCall cc nn, fun h => ?taken, fun h => ?notTaken⟩⟩
  case rst =>
    rw [← rstTarget_eq]
    exact callsTo_of_exec_opCall (exec_rowRst y s)
  case taken => exact callsTo_of_exec_opCall (exec_taken (exec_rowCall cc nn s) h)
  case notTaken => exact jumpsTo_next_of_not_taken (exec_rowCall cc nn s) h

/-- Settles O35: `opRet`, and IME set after it for RETI; a RET not taken does nothing. -/
theorem returns : Obligations.Returns := by
  unfold Obligations.Returns
  refine ⟨fun s => ⟨⟨encodedAs_encode rfl, _, rfl, opRet_spec s⟩, encodedAs_encode rfl, _, rfl, ?reti⟩,
    fun cc s => ⟨encodedAs_rowRet cc, fun h => ?taken, fun h => ?notTaken⟩⟩
  case reti =>
    obtain ⟨hreturned, -, hcontrol⟩ := opRet_spec s
    exact ⟨hreturned.setIme true, rfl, hcontrol⟩
  case taken => exact ⟨_, exec_taken (exec_rowRet cc s) h, opRet_spec s⟩
  case notTaken => exact jumpsTo_next_of_not_taken (exec_rowRet cc s) h

end Sys2Proof.Machine
end

section
/-! ### Miscellaneous (spec/47_misc.md R240 to R248)

NOP, DI, EI, HALT and STOP are their one update of the state; CCF, SCF, CPL and DAA update A and the flags alone.
What is left is DAA: the model's two tests are R248's, and its value in exact integers wraps to R248's sums. -/

namespace Sys2Proof.Machine

/-! #### DAA's tests and flags (R248) -/

section
variable (x : Byte) (f : Flags)

theorem daaHighFix_iff : daaHighFix x f = true ↔ f.c = true ∨ x.toNat > 0x99 := by
  rw [daaHighFix, Bool.or_eq_true, decide_eq_true_iff]

theorem daaLowFix_iff : daaLowFix x f = true ↔ f.h = true ∨ (x &&& 0x0F).toNat > 0x09 := by
  rw [daaLowFix, Bool.or_eq_true, decide_eq_true_iff, lowNibble_toNat]

theorem daaFlags_z_iff : (daaFlags x f).z = true ↔ daaResult x f = 0 := decide_eq_true_iff

end

theorem daaFlags_c_add {f : Flags} (hn : f.n = false) (x : Byte) : (daaFlags x f).c = daaHighFix x f := by
  rw [daaFlags, hn, if_neg Bool.false_ne_true]

theorem daaFlags_c_sub {f : Flags} (hn : f.n = true) (x : Byte) : (daaFlags x f).c = f.c := by
  rw [daaFlags, if_pos hn]

/-! #### The statements -/

/-- Settles O37: CCF and SCF write the flags alone, CPL the complement of A with N and H set. -/
theorem flagAndAccumulatorToggles : Obligations.FlagAndAccumulatorToggles := by
  unfold Obligations.FlagAndAccumulatorToggles
  intro s
  refine ⟨⟨encodedAs_encode rfl, _, rfl, rfl, rfl, ?ccf⟩, ⟨encodedAs_encode rfl, _, rfl, rfl, rfl, ?scf⟩,
    ⟨encodedAs_encode rfl, _, rfl, BitVec.toNat_not, rfl, ?cpl⟩⟩
  case ccf => exact onlyAccumulator_update s s.a _
  case scf => exact onlyAccumulator_update s s.a _
  case cpl => exact onlyAccumulator_update s _ _

/-- Settles O38: N selects between the sum with R248's two corrections, C the first of its tests, and the
difference, C kept. -/
theorem decimalAdjust : Obligations.DecimalAdjust := by
  unfold Obligations.DecimalAdjust
  refine ⟨encodedAs_encode rfl, fun s => ⟨_, rfl, fun hn => ?add, fun hn => ?sub,
    daaFlags_z_iff s.a s.flags, rfl, rfl, onlyAccumulator_update s _ _⟩⟩
  case add =>
    simp only [← daaHighFix_iff, ← daaLowFix_iff]
    exact ⟨daaResult_add hn s.a, Bool.eq_iff_iff.mp (daaFlags_c_add hn s.a)⟩
  case sub => exact ⟨daaResult_sub hn s.a, daaFlags_c_sub hn s.a⟩

/-- Settles O36: each instruction's meaning is its one update, or none. -/
theorem nopInterruptEnableHaltStop : Obligations.NopInterruptEnableHaltStop := by
  unfold Obligations.NopInterruptEnableHaltStop
  exact fun n s => ⟨⟨encodedAs_encode rfl, rfl⟩, ⟨encodedAs_encode rfl, rfl⟩,
    ⟨encodedAs_encode rfl, rfl⟩, ⟨encodedAs_encode rfl, rfl⟩, ⟨encodedAs_encode rfl, rfl⟩⟩

end Sys2Proof.Machine
end

section
/-! ### The exception (spec/60_exceptions.md R260 to R264)

At a slot without a descriptor the step answers the state before plus the record
(`step_of_slotUnimplemented`). At any other it runs the instruction, which is neither a hole's row nor the
marker's, so `fault` stays clear (`step_of_slotImplemented`). -/

namespace Sys2Proof.Machine

/-! #### The unimplemented rows (R89) -/

/-- Each hole's row is well-formed and encoded as the hole's byte. -/
theorem encode_unimplementedRow {row : Byte × Instr} (h : row ∈ unimplementedRows) :
    row.2.WellFormed ∧ encode row.2 = [row.1] := by
  revert row
  decide

/-- R88: a hole's row stands in the table as a descriptor without an immediate. -/
theorem primaryLookup_unimplementedRow {row : Byte × Instr} (h : row ∈ unimplementedRows) :
    primaryLookup row.1 = .plain row.2 := by
  obtain ⟨hwf, hencode⟩ := encode_unimplementedRow h
  obtain ⟨slot, hspells⟩ := spells_encode hwf
  rw [hencode] at hspells
  generalize row.1 = op at hspells ⊢
  cases hspells with
  | plain hl => exact hl

/-- What is read through a hole's slot is the hole's row of one byte. -/
theorem spells_of_unimplementedSlot {row : Byte × Instr} (h : row ∈ unimplementedRows) {bytes : List Byte}
    {i : Instr} (hspells : Spells bytes (.primary row.1) i) : bytes = [row.1] ∧ i = row.2 := by
  have hrow := primaryLookup_unimplementedRow h
  cases hspells with
  | plain hl => exact ⟨rfl, Descriptor.plain.inj (hl.symm.trans hrow)⟩
  | imm8 hl | imm16 hl => cases hl.symm.trans hrow

/-- A hole's row is read through the hole's slot alone. -/
theorem slot_of_spells_unimplementedRow {row : Byte × Instr} (h : row ∈ unimplementedRows)
    {bytes : List Byte} {slot : Slot} (hspells : Spells bytes slot row.2) : slot = .primary row.1 := by
  have hbytes : bytes = [row.1] := (encode_of_spells hspells).symm.trans (encode_unimplementedRow h).2
  generalize row.2 = i at hspells
  cases hspells with
  | plain => exact congrArg Slot.primary (List.head_eq_of_cons_eq hbytes)
  | imm8 | imm16 | cb => simp at hbytes

/-- Settles O40: the row is encoded as its byte, and its meaning is the exception with that byte. -/
theorem unimplementedRowsRaise : Obligations.UnimplementedRowsRaise := by
  unfold Obligations.UnimplementedRowsRaise
  intro row h s
  obtain ⟨hwf, hencode⟩ := encode_unimplementedRow h
  exact ⟨hencode ▸ encodedAs_encode hwf, exec_unimplementedRow h s⟩

/-! #### What a step of a state without a fault can do (R82, R262) -/

/-- The slots at which the exception is raised (R89): those the build leaves without a descriptor, and the
holes of the primary table. -/
def SlotUnimplemented (cfg : Config) (slot : Slot) : Prop :=
  slot ∈ cfg.extraUnimplemented ∨ ∃ row ∈ unimplementedRows, slot = .primary row.1

section
variable {s : State} {d : Decoded}

theorem wellFormed_of_fetchDecode (hd : fetchDecode s = .ok d) : d.instr.WellFormed := by
  obtain ⟨word, -, -, -, hspells⟩ := spells_of_decode hd
  exact wellFormed_of_spells hspells

/-- R82: at a slot whose descriptor the build keeps, the step is the instruction, run with PC past its bytes. -/
theorem step_eq_exec (hfault : s.fault = none) (hd : fetchDecode s = .ok d)
    (hslot : d.slot ∉ s.config.extraUnimplemented) : step s = exec d.instr (s.advance d.len) :=
  stepRunsDecodedInstruction s d hfault hd (wellFormed_of_fetchDecode hd) hslot

/-- R262: the build's slots raise in the step, the holes in their rows; both after the opcode bytes alone. -/
theorem step_of_slotUnimplemented (hfault : s.fault = none) (hd : fetchDecode s = .ok d)
    (hlacks : SlotUnimplemented s.config d.slot) :
    step s = .next { s with fault := some (.unimplementedOpcode (slotBytes d.slot) s.pc) } := by
  rw [← raiseUnimplemented_advance]
  by_cases hextra : d.slot ∈ s.config.extraUnimplemented
  · rw [step_of_fetchDecode hfault hd, if_pos (by simpa [lacksDescriptor] using hextra)]
  · obtain ⟨row, hrow, hslot⟩ := hlacks.resolve_left hextra
    obtain ⟨word, -, -, hlen, hspells⟩ := spells_of_decode hd
    rw [hslot] at hspells
    obtain ⟨hword, hinstr⟩ := spells_of_unimplementedSlot hrow hspells
    rw [step_eq_exec hfault hd hextra, hinstr, exec_unimplementedRow hrow, hlen, hword, hslot]
    rfl

/-- R264: any other step completes without a fault, for what it runs is not one of the rows that raise. -/
theorem step_of_slotImplemented (hfault : s.fault = none) (hd : fetchDecode s = .ok d)
    (himpl : ¬SlotUnimplemented s.config d.slot) : ∃ t, step s = .next t ∧ t.fault = none := by
  obtain ⟨word, -, -, -, hspells⟩ := spells_of_decode hd
  obtain ⟨t, hexec, hrun⟩ := exec_runs d.instr (s.advance d.len)
  refine ⟨t, (step_eq_exec hfault hd fun hextra => himpl (.inl hextra)).trans hexec, ?_⟩
  rcases fault_of_runs hrun with hkept | ⟨row, hrow, hinstr⟩ | ⟨hinstr, -⟩
  · exact hkept.trans hfault
  · rw [hinstr] at hspells
    exact absurd (.inr ⟨row, hrow, slot_of_spells_unimplementedRow hrow hspells⟩) himpl
  · have hwf : d.instr.WellFormed := wellFormed_of_fetchDecode hd
    rw [hinstr] at hwf
    exact absurd hwf Bool.noConfusion

end

/-- Settles O41: the step of a state without a fault, at a slot that raises. -/
theorem stepRaisesPrecisely : Obligations.StepRaisesPrecisely := by
  unfold Obligations.StepRaisesPrecisely
  exact fun s d hfault hd hlacks => step_of_slotUnimplemented hfault hd hlacks

/-- Settles O43: the fetch always decodes, and its slot is unimplemented or is not. -/
theorem everyUnfaultedStepCompletes : Obligations.EveryUnfaultedStepCompletes := by
  unfold Obligations.EveryUnfaultedStepCompletes
  intro s hfault
  obtain ⟨d, hd⟩ := Laws.fetchDecode_ok s
  by_cases hlacks : SlotUnimplemented s.config d.slot
  · exact ⟨_, step_of_slotUnimplemented hfault hd hlacks, .inr ⟨d.slot, rfl⟩⟩
  · obtain ⟨t, hstep, hnone⟩ := step_of_slotImplemented hfault hd hlacks
    exact ⟨t, hstep, .inl hnone⟩

/-! #### A fault is terminal (R263) -/

/-- R31, R262: an instruction keeps `fault` or sets it. -/
theorem fault_of_exec {i : Instr} {s t : State} (h : exec i s = .next t) :
    t.fault = s.fault ∨ t.fault ≠ none := by
  rcases fault_of_runs (runs_of_exec h) with hkept | ⟨row, hrow, rfl⟩ | ⟨rfl, hslot⟩
  · exact .inl hkept
  · rw [exec_unimplementedRow hrow] at h
    cases h
    exact .inr (Option.some_ne_none _)
  · rw [exec_prefixCb, if_pos (by simpa [lacksDescriptor] using hslot)] at h
    cases h
    exact .inr (Option.some_ne_none _)

/-- Settles O42: the step refuses a faulted state, an instruction keeps `fault` or sets it, and the reset action
writes it. -/
theorem faultIsTerminal : Obligations.FaultIsTerminal := by
  unfold Obligations.FaultIsTerminal
  refine ⟨fun s record hfault => ?refused, fun i s t h hfault => ?sticky, fun s => rfl⟩
  case refused => simp [step, hfault]
  case sticky =>
    rcases fault_of_exec h with hkept | hset
    · exact hkept ▸ hfault
    · exact hset

end Sys2Proof.Machine
end

section
/-! ### Reset, launch and the end of a run (spec/70_reset_and_hazards.md R280, R281, R287) -/

namespace Sys2Proof.Machine

/-- Settles O57: the reset state and the reset action hold these five values as they stand. -/
theorem resetSetsControlState : Obligations.ResetSetsControlState := by
  unfold Obligations.ResetSetsControlState
  intro s
  simp only [List.forall_mem_cons]
  exact ⟨⟨rfl, rfl, rfl, rfl, rfl⟩, ⟨rfl, rfl, rfl, rfl, rfl⟩, by simp⟩

/-- Settles O59: a launch is the preset over the reset state, whose values are the defaults. -/
theorem launchAppliesPreset : Obligations.LaunchAppliesPreset := by
  unfold Obligations.LaunchAppliesPreset
  exact fun cfg init => ⟨_, rfl, rfl, rfl, rfl, rfl, rfl, rfl, rfl, rfl, rfl, rfl, rfl, rfl, rfl, rfl, rfl,
    rfl, rfl, rfl, rfl⟩

/-! #### The end of a run (R287) -/

/-- The first step of a run decides: it faulted, it was the last one, or the run goes on from its state. -/
theorem runFor_succ {s t : State} (h : step s = .next t) (k : Nat) :
    runFor (k + 1) s =
      if t.fault.isSome then .faulted t else if endsRun s then .final t else runFor k t := by
  simp only [runFor, h]

/-- A run ends at HALT or STOP, of a slot with a descriptor. -/
theorem of_endsRun {s : State} (h : endsRun s = true) :
    ∃ d, fetchDecode s = .ok d ∧ d.slot ∉ s.config.extraUnimplemented ∧
      (d.instr = .halt ∨ ∃ n, d.instr = .stop n) := by
  obtain ⟨d, hd⟩ := Laws.fetchDecode_ok s
  unfold endsRun at h
  simp only [hd, Bool.and_eq_true, Bool.not_eq_true', lacksDescriptor, decide_eq_false_iff_not] at h
  obtain ⟨hslot, hends⟩ := h
  refine ⟨d, hd, hslot, ?_⟩
  split at hends
  · next hinstr => exact .inl hinstr
  · next n hinstr => exact .inr ⟨n, hinstr⟩
  · exact absurd hends Bool.false_ne_true

/-- R243, R244: HALT and STOP set their latch, with PC past the instruction and no fault. -/
theorem step_of_endsRun {s : State} (hfault : s.fault = none) (h : endsRun s = true) :
    ∃ t d, step s = .next t ∧ fetchDecode s = .ok d ∧ t.fault = none ∧
      t.pc = s.pc + BitVec.ofNat 16 d.len ∧
      ((d.instr = .halt ∧ t.halted = true) ∨ (∃ n, d.instr = .stop n) ∧ t.stopped = true) := by
  obtain ⟨d, hd, hslot, hinstr⟩ := of_endsRun h
  have hstep := step_eq_exec hfault hd hslot
  rcases hinstr with hinstr | ⟨n, hinstr⟩ <;> rw [hinstr] at hstep
  · exact ⟨_, d, hstep, hd, hfault, rfl, .inl ⟨hinstr, rfl⟩⟩
  · exact ⟨_, d, hstep, hd, hfault, rfl, .inr ⟨⟨n, hinstr⟩, rfl⟩⟩

/-- Settles O60: each clause is one branch of the run's first step. -/
theorem runEndsAtHaltOrStop : Obligations.RunEndsAtHaltOrStop := by
  unfold Obligations.RunEndsAtHaltOrStop
  intro s hfault
  refine ⟨fun hends => ?final, fun t hstep hset k => ?faulted, fun t hstep hnone hends => ?running⟩
  case final =>
    obtain ⟨t, d, hstep, hd, hnone, hpc, hlatch⟩ := step_of_endsRun hfault hends
    refine ⟨t, d, hstep, fun k => ?_, hd, hnone, hpc, hlatch⟩
    simp [runFor_succ hstep, hnone, hends]
  case faulted => rw [runFor_succ hstep, if_pos (Option.isSome_iff_ne_none.mpr hset)]
  case running =>
    have hrun (k : Nat) : runFor (k + 1) s = runFor k t := by simp [runFor_succ hstep, hnone, hends]
    exact ⟨hrun 0, hrun⟩

end Sys2Proof.Machine
end
